-- ==== Sys2Proof/Word.lean ====
section
/-! DEFINITION. The word types of the LC48: bytes of the port and the surface, and the sixteen LDATA lines. -/

namespace Sys2Proof

/-- A byte: a colour index, a payload byte, a tag, a frame number. -/
abbrev Byte := BitVec 8

/-- The sixteen LDATA lines, line 0 the least significant bit (R25). -/
abbrev Lines := BitVec 16

/-- LDATA with no line driven: every line reads 1 (R25). -/
def released : Lines := 0xFFFF#16

end Sys2Proof
end

