-- ==== Sys2Proof/Syntax.lean ====
section
/-! DEFINITION. The happenings of the LC48: one constructor for every row of spec/opcode_table.json. -/

namespace Sys2Proof

/-- The three clients of the Store Arbiter (R133, Figure 8-1). -/
inductive Client where
  | fetch
  | port
  | engine
  deriving DecidableEq, Repr

/-- What else LDATA carries in a contested field, a claim round or a winner phase: as each of its contested lines settles, in
their order, and as the field is read, which stands for the lines that `settling` leaves out too (R69, R78, R94, R99; log
entry 15). -/
structure Carried where
  settling : List Lines
  reading : Lines
  deriving DecidableEq, Repr

/-- The commands sent to the block: the happenings of the table, in the table's order.
A happening that takes an entry from the head of the station's Command Queue has no operand, since the
entry's code, tag and payload stand in that queue. `inService` names the client whose access the Store
Arbiter is serving as the frame arrives, `none` for no access (R133, R139, R155; log entry 9). -/
inductive Instr where
  | resetPinAsserted
  /-- The three strap groups as sampled: station number, geometry preset, video output on. -/
  | resetPinReleased (station : BitVec 3) (preset : BitVec 2) (video : Bool)
  /-- One command frame's whole bytes, check byte last; a shorter list is a frame cut by the rise of PSEL, and the empty
  list one cut inside its first byte. -/
  | commandFrameReceived (bytes : List Byte) (inService : Option Client)
  /-- The kind byte and the number of bytes clocked after it. -/
  | ignoredTransaction (kind : Byte) (count : Nat)
  /-- The number of bytes clocked after the kind byte. -/
  | readTransaction (count : Nat)
  | badFrameEntryTaken
  | unknownCodeTaken
  | objectWriteNow
  | objectWriteAtFrame
  | objectMoveNow
  | objectMoveAtFrame
  | objectRead
  | flushPending
  | tintWrite
  | surfaceWrite
  | portWriteAccessServed
  | surfaceRead
  | portReadAccessServed
  | fill
  | copy
  | line
  | seek
  | plot
  | probe
  | engineAccessServed
  | drawAbort (inService : Option Client)
  | restart (inService : Option Client)
  | paletteWrite
  | pickAt
  | readPicks
  | readCollisions
  | readShortfall
  | readMembers
  | detach
  | rejoin
  | readStatus
  | readEvents
  | lmarkLeadingEdge
  | lineMark
  | frameMark
  | lineTimerRunsOut
  | silenceCountLimit
  /-- What everything else on the link drives on LDATA in the frame word, wired-AND. -/
  | frameWord (others : Lines)
  /-- What everything else on the link drives on LDATA in this announce place, wired-AND. -/
  | announcePlace (others : Lines)
  /-- The words the other bidding stations drive as the round begins, and what else is held on LDATA (R69, R78). -/
  | claimRound (bids : List Lines) (held : Carried)
  | fetchAccessServed
  /-- The winner phase words of the other stations, what else is held on LDATA in that phase (R94, R99), and the
  wired-AND of what the others drive in the join phase. -/
  | columnResolved (rivals : List Lines) (held : Carried) (join : Lines)
  | picktrigEdge
  | badLengthEntryTaken
  deriving DecidableEq, Repr

end Sys2Proof
end

