-- ==== Sys2Proof/Decode.lean ====
section
/-! DEFINITION. Decoding of a table word. No row of spec/opcode_table.json gives bits (its every "fields" is
empty and no row has "fixed"), so no word spells a happening. The command frames of the port, which do have
an encoding, are read in Machine/Operands.lean. -/

namespace Sys2Proof

/-- The happening that a word spells by the table's bits: none, for every word. -/
def decodeTableWord (_nbits _w : Nat) : Option Instr := none

end Sys2Proof
end

