-- ==== Sys2Proof/Config.lean ====
section
/-! DEFINITION. What the spec leaves open: the free value of the nonce counter, and the strap levels that
`State.reset` takes as sampled. -/

namespace Sys2Proof

/-- FREE VALUE (log entry 7). The nonce sampled at the n-th sampling, n = 0, 1, …: the low seven bits of a
free-running counter on a clock of its own that no reset sets (R45). Nothing constrains it. -/
opaque Config.nonceSample : Nat → BitVec 7

/-- DESIGN CHOICE (log entry 6): the station number straps that `State.reset` takes as sampled. -/
def Config.resetStation : BitVec 3 := 0#3

/-- DESIGN CHOICE (log entry 6): the geometry preset straps that `State.reset` takes as sampled. -/
def Config.resetPreset : BitVec 2 := 0#2

/-- DESIGN CHOICE (log entry 6): the video output strap that `State.reset` takes as sampled. -/
def Config.resetVideo : Bool := false

end Sys2Proof
end

