-- ==== Sys2Proof/Machine/State.lean ====
section
/-! DEFINITION. The state of one LC48 station, block by block as Figure 0-1 lists them, and its value right
after reset. Every field's rule and reset value is listed in INVENTORY.md under "## State". -/

namespace Sys2Proof.Machine

/-! ### Object Table (Chapter 1) -/

/-- The state of an object record (Table 1-2). -/
inductive ObjState where
  | empty
  | hidden
  | shown
  | terminal
  deriving DecidableEq, Repr

/-- A tint: a run of the Tint Pool (Table 1-1). -/
structure Tint where
  start : Nat
  length : Nat
  deriving DecidableEq, Repr

/-- An object record (R1, Table 1-1). -/
structure ObjectRecord where
  state : ObjState
  screenX : Int
  screenY : Nat
  width : Nat
  height : Nat
  sourceX : Nat
  sourceY : Nat
  cls : Nat
  join : Bool
  watched : Bool
  mirror : Bool
  tint : Option Tint
  deriving DecidableEq, Repr

/-- The cleared record: EMPTY, every numeric field 0, every flag "no", tint absent (R1, R3). -/
def ObjectRecord.cleared : ObjectRecord :=
  { state := .empty, screenX := 0, screenY := 0, width := 0, height := 0, sourceX := 0, sourceY := 0,
    cls := 0, join := false, watched := false, mirror := false, tint := none }

/-- An entry of the Pending Update Queue (R11). -/
inductive PendingEntry where
  | whole (object : Nat) (record : ObjectRecord)
  | move (object : Nat) (screenX : Int) (screenY : Nat)
  deriving DecidableEq, Repr

/-- The Object Table and its Pending Update Queue, oldest entry first. -/
structure ObjectTable where
  objects : List ObjectRecord
  updates : List PendingEntry
  deriving DecidableEq, Repr

/-! ### Link Timing Unit (Chapter 2) -/

/-- The two kinds of mark (R24). -/
inductive MarkKind where
  | line
  | frame
  deriving DecidableEq, Repr

/-- The Link Timing Unit. `lineTimer` is `none` while the timer is stopped. `frameDriven`: whether this station's own frame
assertion stands, or stood past the decision point, in the assertion of the last leading edge (R31). -/
structure LinkTiming where
  lineTimer : Option Nat
  silenceCount : Nat
  silencePixels : Nat
  lineCounter : Nat
  frameNumber : Byte
  synced : Bool
  pixelTime : Nat
  edgeSeen : Bool
  lmark : Option MarkKind
  frameDriven : Bool
  ldata : Lines
  ldataJoin : Lines
  deriving DecidableEq, Repr

/-! ### Membership Unit (Chapter 3) -/

/-- The membership states (Table 3-1). -/
inductive OwnState where
  | listen
  | founding
  | joining
  | member
  | conflict
  | refused
  | detached
  deriving DecidableEq, Repr

/-- An entry of the Member Table (R48). -/
structure MemberEntry where
  present : Bool
  code : Byte
  joining : Bool
  nonce : BitVec 7
  missed : Nat
  framePresent : Byte
  deriving DecidableEq, Repr

/-- An absent entry with every field 0 (R48). -/
def MemberEntry.absent : MemberEntry :=
  { present := false, code := 0#8, joining := false, nonce := 0#7, missed := 0, framePresent := 0#8 }

/-- The announce window while it is held (R28): whether its frame word has been read, whether the station has been in
LISTEN, without leaving it, since the window began with its frame word, or is in LISTEN where it is still to begin (R52,
R65; log entries 23 and 29), the next place, and the places heard (R53). -/
structure AnnounceWindow where
  wordRead : Bool
  listening : Bool
  place : Nat
  heard : List Nat
  deriving DecidableEq, Repr

/-- The Membership Unit. `nonceDraws` is the model's own: it selects the free value of the next nonce. -/
structure Membership where
  own : OwnState
  listenCount : Nat
  windowWait : Nat
  admitted : Bool
  detachPending : Bool
  members : List MemberEntry
  announce : Option AnnounceWindow
  nonceDraws : Nat
  deriving DecidableEq, Repr

/-! ### Line Scanner and Claim Unit (Chapters 1 and 4) -/

/-- A candidate: the captured copy of a selected record (R20). -/
structure Candidate where
  object : Nat
  screenX : Int
  screenY : Nat
  width : Nat
  height : Nat
  sourceX : Nat
  sourceY : Nat
  cls : Nat
  join : Bool
  watched : Bool
  mirror : Bool
  tint : Option Tint
  deriving DecidableEq, Repr

/-- An entry of the grant list (R72). -/
structure Grant where
  slot : Nat
  station : Nat
  object : Nat
  cls : Nat
  deriving DecidableEq, Repr

/-- An own grant: a captured copy with the slot it won (R74, R79). -/
structure OwnGrant where
  slot : Nat
  copy : Candidate
  deriving DecidableEq, Repr

/-- A shortfall record (R81, Table 4-4). -/
structure Shortfall where
  frame : Byte
  firstLine : Option Nat
  firstObject : Option Nat
  denied : Nat
  overflow : Nat
  deriving DecidableEq, Repr

/-- A cleared shortfall record of a frame (R81). -/
def Shortfall.cleared (frame : Byte) : Shortfall :=
  { frame := frame, firstLine := none, firstObject := none, denied := 0, overflow := 0 }

/-- The candidate list and the Claim Unit. `window` is the next round of an open claim window. -/
structure ClaimUnit where
  candidates : List Candidate
  window : Option Nat
  grants : List Grant
  ownGrants : List OwnGrant
  current : Shortfall
  last : Shortfall
  deriving DecidableEq, Repr

/-! ### Line Assembler and Output Stage (Chapter 5) -/

/-- A fetched row (R86). A pixel is `none` where it is transparent; a row not complete holds the pixels read so far. -/
structure Row where
  slot : Nat
  object : Nat
  cls : Nat
  join : Bool
  watched : Bool
  first : Int
  width : Nat
  pixels : List (Option Byte)
  complete : Bool
  deriving DecidableEq, Repr

/-- How the winner of a column is named (R95, R126). -/
inductive Winner where
  | named (station : Nat) (object : Nat) (cls : Nat)
  | backdrop
  | unknown
  deriving DecidableEq, Repr

/-- The reading of a column (R95). `slot` is `none` when no winner is present. -/
structure Reading where
  slot : Option Nat
  colour : Byte
  watched : Bool
  composed : Byte
  deriving DecidableEq, Repr

/-- One own row that is opaque at a reported column (R97). -/
structure OwnPixel where
  slot : Nat
  object : Nat
  join : Bool
  watched : Bool
  deriving DecidableEq, Repr

/-- A column report (R97). -/
structure ColumnReport where
  line : Nat
  x : Nat
  reading : Reading
  winner : Winner
  own : List OwnPixel
  deriving DecidableEq, Repr

/-- The Line Assembler. `column` is the next column of the active part the station holds. -/
structure Assembler where
  buffer : List Row
  fetching : Bool
  column : Option Nat
  report : Option ColumnReport
  deriving DecidableEq, Repr

/-- The levels of one palette entry, each 0 … 63 (R100). -/
structure Rgb where
  red : Byte
  green : Byte
  blue : Byte
  deriving DecidableEq, Repr

/-- Level 0 on all three colours. -/
def Rgb.black : Rgb := { red := 0#8, green := 0#8, blue := 0#8 }

/-- The Output Stage. -/
structure OutputStage where
  palette : List Rgb
  rgb : Rgb
  hsync : Bool
  deriving DecidableEq, Repr

/-! ### Collision Unit and Pick Unit (Chapters 6 and 7) -/

/-- A record of the Collision Log (R109, Table 6-1). -/
structure CollisionRecord where
  frame : Byte
  line : Nat
  x : Nat
  own : Nat
  station : Nat
  object : Nat
  more : Bool
  deriving DecidableEq, Repr

/-- An entry of the Pending Point List (R119). -/
structure PickPoint where
  tag : Byte
  x : Nat
  y : Nat
  deriving DecidableEq, Repr

/-- One own row as a pick record names it: without the watched flag, which the record does not carry (R126). -/
structure PickOwn where
  slot : Nat
  object : Nat
  join : Bool
  deriving DecidableEq, Repr

/-- A pick record (R126, Table 7-1). `tag` is `none` for a trigger. -/
structure PickRecord where
  tag : Option Byte
  frame : Byte
  x : Nat
  line : Nat
  winner : Winner
  composed : Byte
  own : List PickOwn
  deriving DecidableEq, Repr

/-- The Pick Unit. -/
structure PickUnit where
  points : List PickPoint
  trigger : Bool
  queue : List PickRecord
  edgeWaiting : Bool
  edgeTaken : Bool
  deriving DecidableEq, Repr

/-! ### Surface Store and Drawing Engine (Chapters 8 and 9) -/

/-- A memory of bytes: the cells that differ from 0, addresses strictly rising. -/
abbrev Memory := List Host.Cell

/-- The Store Arbiter: which lower client's access may still be being served although the access of a
higher client waits (R133; log entry 9), and the client whose access a frame has named as being served,
until that access has ended (R133, last sentences; log entry 9). -/
structure Arbiter where
  portMayHold : Bool
  engineMayHold : Bool
  held : Option Client := none
  deriving DecidableEq, Repr

/-- The logical operations (Table 9-3). -/
inductive DrawOp where
  | set
  | and
  | or
  | xor
  | invert
  deriving DecidableEq, Repr

/-- An accepted draw command (Tables 9-1 and 9-2). -/
inductive DrawCmd where
  | fill (op : DrawOp) (skip sync : Bool) (x y w h : Nat) (colour : Byte)
  | copy (op : DrawOp) (skip left up sync : Bool) (sx sy dx dy w h : Nat)
  | line (op : DrawOp) (skip sync : Bool) (x0 y0 x1 y1 : Nat) (colour : Byte)
  | seek (left differ sync : Bool) (x y : Nat) (value : Byte)
  | plot (op : DrawOp) (skip sync : Bool) (x y : Nat) (colour : Byte)
  | probe (sync : Bool) (x y : Nat)
  deriving DecidableEq, Repr

/-- An accepted draw command with the tag of its command frame. -/
structure DrawEntry where
  tag : Byte
  cmd : DrawCmd
  deriving DecidableEq, Repr

/-- The progress of the command at the engine: pixels processed (columns examined, for SEEK), the source read
of a COPY pixel in progress, whether SEEK's test held, and the index PROBE read. -/
structure Progress where
  done : Nat
  source : Option Byte
  found : Bool
  value : Byte
  deriving DecidableEq, Repr

/-- No pixel processed. -/
def Progress.none : Progress := { done := 0, source := Option.none, found := false, value := 0#8 }

/-- The engine state with the command at the engine (R141). `stopping` is RUNNING after DRAW ABORT, until the
pixel in progress has been served; it holds the commands taken from the Draw Queue that are to be answered
ABORTED at that point (R155). -/
inductive EngineMode where
  | idle
  | waiting (entry : DrawEntry)
  | running (entry : DrawEntry) (progress : Progress)
  | stopping (entry : DrawEntry) (progress : Progress) (aborted : List DrawEntry)
  deriving DecidableEq, Repr

/-- The Drawing Engine: its mode and the Draw Queue, oldest first. -/
structure Engine where
  mode : EngineMode
  queue : List DrawEntry
  deriving DecidableEq, Repr

/-! ### Command Port (Chapter 10) -/

/-- The statuses (Table 10-3). -/
inductive Status where
  | ok
  | badFrame
  | unknown
  | badLength
  | badField
  | full
  | wrongState
  | aborted
  deriving DecidableEq, Repr

/-- The nine kinds of event (Table 10-5). -/
inductive EventKind where
  | collision
  | logFull
  | pick
  | pickLost
  | shortfall
  | members
  | state
  | slip
  | overrun
  deriving DecidableEq, Repr

/-- The Event Set: a count for each kind, 0 for an absent kind (R166, R167). -/
structure Events where
  collision : Nat
  logFull : Nat
  pick : Nat
  pickLost : Nat
  shortfall : Nat
  members : Nat
  state : Nat
  slip : Nat
  overrun : Nat
  deriving DecidableEq, Repr

/-- The empty Event Set. -/
def Events.none : Events :=
  { collision := 0, logFull := 0, pick := 0, pickLost := 0, shortfall := 0, members := 0, state := 0,
    slip := 0, overrun := 0 }

/-- An entry of the Command Queue: an ordinary entry, or a bad-frame entry (R159). -/
structure Entry where
  bad : Bool
  code : Byte
  tag : Byte
  length : Nat
  payload : List Byte
  deriving DecidableEq, Repr

/-- A response (Table 10-2). -/
structure Response where
  tag : Byte
  code : Byte
  status : Status
  payload : List Byte
  deriving DecidableEq, Repr

/-- The port transfer in progress (R136, R137). -/
inductive Transfer where
  | write (tag : Byte) (x y : Nat) (pixels : List Byte) (next : Nat)
  | read (tag : Byte) (x y count : Nat) (got : List Byte)
  deriving DecidableEq, Repr

/-- The Command Port. `pdo` is what the latest port happening sent on PDO. -/
structure Port where
  commands : List Entry
  responses : List Response
  events : Events
  transfer : Option Transfer
  pdo : List Byte
  deriving DecidableEq, Repr

/-- The straps as sampled. -/
structure Straps where
  station : BitVec 3
  preset : BitVec 2
  video : Bool
  deriving DecidableEq, Repr

/-! ### The station -/

/-- The whole state of one station, and the queue of happenings waiting to be stepped. -/
structure State where
  resetPin : Bool
  straps : Straps
  port : Port
  table : ObjectTable
  tints : List Byte
  link : LinkTiming
  member : Membership
  claim : ClaimUnit
  lines : Assembler
  output : OutputStage
  collisions : List CollisionRecord
  picks : PickUnit
  surface : Memory
  arbiter : Arbiter
  engine : Engine
  pending : List Instr
  deriving DecidableEq, Repr

/-- Why a step faults. -/
inductive Fault where
  /-- Raised by an access served at the Store Arbiter (fetch, port transfer, Drawing Engine, or an access ending
  whole at RESTART) that names a surface position outside 0 … 511 on either axis, which does not exist (R131).
  Safe: no state with the fit conditions of R1 and the checks of R135, R137 and R145 makes one. -/
  | surfaceOutside (x y : Nat)
  /-- Raised by the fetch when a captured copy's tint names a Tint Pool entry above 511, which does not exist
  (R16, R89). Safe: no state with the tint fit condition of R1 makes one. -/
  | tintOutside (entry : Nat)
  deriving DecidableEq, Repr

/-- Why a step is refused. -/
inductive Refusal where
  /-- Raised by exec's arm of a happening that has no meaning yet. Safe. No arm uses it. -/
  | notModelled (mnemonic : String)
  deriving DecidableEq, Repr

/-- Every block at its initial value, with the reset pin asserted or not, the straps as given, and the number of
nonces drawn, which no reset sets (R3, R15, R16, R22, R42, R45, R79, R81, R86, R100, R109, R119, R131, R141, R170,
Table 2-2). -/
def State.initial (pin : Bool) (straps : Straps) (nonceDraws : Nat) (pending : List Instr) : State :=
  { resetPin := pin
    straps := straps
    port := { commands := [], responses := [], events := .none, transfer := none, pdo := [] }
    table := { objects := List.replicate 48 .cleared, updates := [] }
    tints := List.replicate 512 0#8
    link := { lineTimer := none, silenceCount := 0, silencePixels := 0, lineCounter := 0, frameNumber := 0#8,
              synced := false, pixelTime := 0, edgeSeen := false, lmark := none, frameDriven := false,
              ldata := released, ldataJoin := released }
    member := { own := .listen, listenCount := 0, windowWait := 0, admitted := false, detachPending := false,
                members := List.replicate 8 .absent, announce := none, nonceDraws := nonceDraws }
    claim := { candidates := [], window := none, grants := [], ownGrants := [], current := .cleared 0#8,
               last := .cleared 0#8 }
    lines := { buffer := [], fetching := false, column := none, report := none }
    output := { palette := List.replicate 256 .black, rgb := .black, hsync := false }
    collisions := []
    picks := { points := [], trigger := false, queue := [], edgeWaiting := false, edgeTaken := false }
    surface := []
    arbiter := { portMayHold := false, engineMayHold := false, held := none }
    engine := { mode := .idle, queue := [] }
    pending := pending }

/-- The station right after the reset pin is released, with the straps of Config and nothing pending. -/
def State.reset : State :=
  State.initial false { station := Config.resetStation, preset := Config.resetPreset, video := Config.resetVideo }
    0 []

end Sys2Proof.Machine
end

