-- ==== Sys2Proof/Machine/Geometry.lean ====
section
/-! DEFINITION. The geometry presets (R26, Table 2-1) and the capacities of the station's collections. -/

namespace Sys2Proof.Machine

/-- The figures a preset fixes (Table 2-1). -/
structure Geometry where
  activePixels : Nat
  linePixels : Nat
  activeLines : Nat
  totalLines : Nat
  code : Byte
  deriving DecidableEq, Repr

/-- Table 2-1. -/
def geometryOf (preset : BitVec 2) : Geometry :=
  match preset.toNat with
  | 0 => { activePixels := 320, linePixels := 400, activeLines := 240, totalLines := 262, code := 0x50#8 }
  | 1 => { activePixels := 384, linePixels := 480, activeLines := 288, totalLines := 312, code := 0x51#8 }
  | 2 => { activePixels := 512, linePixels := 640, activeLines := 384, totalLines := 416, code := 0x52#8 }
  | _ => { activePixels := 640, linePixels := 800, activeLines := 480, totalLines := 525, code := 0x53#8 }

/-- The pixel times before the active part: pixel times per line less active pixels (R26, R27). -/
def Geometry.blank (g : Geometry) : Nat := g.linePixels - g.activePixels

/-- The figures of the station's own preset. -/
def State.geometry (s : State) : Geometry := geometryOf s.straps.preset

/-- The station's own number, 0 … 7. -/
def State.stationNumber (s : State) : Nat := s.straps.station.toNat

/-- The Command Queue's capacity (R160). -/
def commandCapacity : Nat := 8
/-- The response budget (R161) and the Response Queue's capacity (R163). -/
def responseBudget : Nat := 8
/-- The Draw Queue's capacity (R141). -/
def drawCapacity : Nat := 4
/-- The Pending Update Queue's capacity (R11). -/
def updateCapacity : Nat := 16
/-- The candidate list's capacity (R20). -/
def candidateCapacity : Nat := 16
/-- The number of claim rounds, and of slots (R70). -/
def slotCount : Nat := 16
/-- The Pending Point List's capacity (R119). -/
def pointCapacity : Nat := 4
/-- The Pick Queue's capacity (R119). -/
def pickCapacity : Nat := 4
/-- The Collision Log's capacity (R109). -/
def logCapacity : Nat := 8
/-- The number of object records (R1). -/
def objectCount : Nat := 48
/-- The number of Tint Pool entries (R16). -/
def tintCount : Nat := 512
/-- The number of palette entries (R100). -/
def paletteCount : Nat := 256
/-- The surface's size on each axis (R131). -/
def surfaceSize : Nat := 512

end Sys2Proof.Machine
end

