-- ==== Sys2Proof/Machine/Operands.lean ====
section
/-! DEFINITION. What the station's operands spell: payload fields, the object record image (Table 1-3), command
codes and lengths (Table 10-6), draw payloads (Tables 9-1 and 9-2), frames (Tables 10-1 and 10-2), and the LDATA
layouts of the announce place (R44), the claim round (Table 4-2) and the column (R94). -/

namespace Sys2Proof.Machine

/-! ### Payload fields -/

/-- A field of one byte, an unsigned number. -/
def byteAt (p : List Byte) (i : Nat) : Nat := (p.getD i 0#8).toNat

/-- A field of two bytes, low byte first, an unsigned number. -/
def wordAt (p : List Byte) (i : Nat) : Nat := byteAt p i + 256 * byteAt p (i + 1)

/-- A field of two bytes, low byte first, a two's-complement number (R4). -/
def intAt (p : List Byte) (i : Nat) : Int := (BitVec.ofNat 16 (wordAt p i)).toInt

/-- A number carried in one byte. -/
def byte1 (n : Nat) : Byte := BitVec.ofNat 8 n

/-- A number carried in two bytes, low byte first. -/
def byte2 (n : Nat) : List Byte := [BitVec.ofNat 8 n, BitVec.ofNat 8 (n / 256)]

/-! ### The object record image -/

/-- The state byte (Table 1-3). -/
def objStateOf : Nat → Option ObjState
  | 0 => some .empty
  | 1 => some .hidden
  | 2 => some .shown
  | 3 => some .terminal
  | _ => none

/-- The state byte of a state (Table 1-3). -/
def objStateByte : ObjState → Byte
  | .empty => 0#8
  | .hidden => 1#8
  | .shown => 2#8
  | .terminal => 3#8

/-- Whether a tint lies in its ranges and in the pool (R1). -/
def tintFits (t : Tint) : Bool :=
  decide (t.start ≤ 511) && decide (1 ≤ t.length) && decide (t.length ≤ 64) && decide (t.start + t.length ≤ tintCount)

/-- Whether a screen position lies in its ranges (R1). -/
def positionFits (x : Int) (y : Nat) : Bool :=
  decide (-64 ≤ x) && decide (x ≤ 1023) && decide (y ≤ 1023)

/-- The ranges and fit conditions of a record that is not EMPTY (R1). -/
def recordFits (r : ObjectRecord) : Bool :=
  positionFits r.screenX r.screenY
    && decide (1 ≤ r.width) && decide (r.width ≤ 64) && decide (1 ≤ r.height) && decide (r.height ≤ 64)
    && decide (r.sourceX ≤ 511) && decide (r.sourceY ≤ 511) && decide (r.cls ≤ 7)
    && decide (r.sourceX + r.width ≤ surfaceSize) && decide (r.sourceY + r.height ≤ surfaceSize)
    && r.tint.all tintFits

/-- The record a 15-byte image carries when its state byte is that of `st`, before the checks (Table 1-3). -/
def imageRecord (st : ObjState) (p : List Byte) : ObjectRecord :=
  let attributes := p.getD 11 0#8
  { state := st, screenX := intAt p 1, screenY := wordAt p 3, width := byteAt p 5, height := byteAt p 6,
    sourceX := wordAt p 7, sourceY := wordAt p 9, cls := (attributes.extractLsb' 0 3).toNat,
    join := attributes.getLsbD 3, watched := attributes.getLsbD 4, mirror := attributes.getLsbD 5,
    tint := if attributes.getLsbD 6 then some { start := wordAt p 12, length := byteAt p 14 } else none }

/-- The bytes that hold no field: attribute bit 7, and bytes 12 … 14 when tint is absent, are 0 (R5). -/
def imageSpareClear (p : List Byte) : Bool :=
  !(p.getD 11 0#8).getLsbD 7
    && ((p.getD 11 0#8).getLsbD 6 || (byteAt p 12 == 0 && byteAt p 13 == 0 && byteAt p 14 == 0))

/-- The record an image stores, or `none` where a check of R5 fails. -/
def readImage (p : List Byte) : Option ObjectRecord :=
  match objStateOf (byteAt p 0) with
  | none => none
  | some .empty => some .cleared
  | some st =>
    let r := imageRecord st p
    if recordFits r && imageSpareClear p then some r else none

/-- The attributes byte of a record (Table 1-3). -/
def attributesByte (r : ObjectRecord) : Byte :=
  BitVec.ofNat 8 (r.cls + 8 * r.join.toNat + 16 * r.watched.toNat + 32 * r.mirror.toNat + 64 * r.tint.isSome.toNat)

/-- The 15-byte image of a record (R4, Table 1-3). -/
def recordImage (r : ObjectRecord) : List Byte :=
  [objStateByte r.state] ++ byte2 (BitVec.ofInt 16 r.screenX).toNat ++ byte2 r.screenY
    ++ [byte1 r.width, byte1 r.height] ++ byte2 r.sourceX ++ byte2 r.sourceY ++ [attributesByte r]
    ++ byte2 ((r.tint.map Tint.start).getD 0) ++ [byte1 ((r.tint.map Tint.length).getD 0)]

/-! ### Commands -/

/-- The commands of the catalogue (Table 10-6). -/
inductive Command where
  | objectWrite
  | objectMove
  | objectRead
  | flushPending
  | tintWrite
  | surfaceWrite
  | surfaceRead
  | fill
  | copy
  | line
  | seek
  | plot
  | probe
  | drawAbort
  | paletteWrite
  | pickAt
  | readPicks
  | readCollisions
  | readShortfall
  | readMembers
  | detach
  | rejoin
  | readStatus
  | readEvents
  | restart
  deriving DecidableEq, Repr

/-- The command a code names (Table 10-6). -/
def commandOf (code : Byte) : Option Command :=
  match code.toNat with
  | 0x10 => some .objectWrite
  | 0x11 => some .objectMove
  | 0x12 => some .objectRead
  | 0x13 => some .flushPending
  | 0x14 => some .tintWrite
  | 0x20 => some .surfaceWrite
  | 0x21 => some .surfaceRead
  | 0x30 => some .fill
  | 0x31 => some .copy
  | 0x32 => some .line
  | 0x33 => some .seek
  | 0x34 => some .plot
  | 0x35 => some .probe
  | 0x3F => some .drawAbort
  | 0x40 => some .paletteWrite
  | 0x50 => some .pickAt
  | 0x51 => some .readPicks
  | 0x58 => some .readCollisions
  | 0x60 => some .readShortfall
  | 0x61 => some .readMembers
  | 0x62 => some .detach
  | 0x63 => some .rejoin
  | 0x70 => some .readStatus
  | 0x71 => some .readEvents
  | 0x7F => some .restart
  | _ => none

/-- Whether a command allows a payload length (Table 10-6). -/
def commandAllows (c : Command) (n : Nat) : Bool :=
  match c with
  | .objectWrite => n == 17
  | .objectMove => n == 6
  | .objectRead => n == 1
  | .flushPending => n == 0
  | .tintWrite => decide (3 ≤ n) && decide (n ≤ 66)
  | .surfaceWrite => decide (5 ≤ n) && decide (n ≤ 244)
  | .surfaceRead => n == 5
  | .fill => n == 10
  | .copy => n == 13
  | .line => n == 10
  | .seek => n == 6
  | .plot => n == 6
  | .probe => n == 5
  | .drawAbort => n == 0
  | .paletteWrite => decide (4 ≤ n) && decide (n ≤ 97) && n % 3 == 1
  | .pickAt => n == 4
  | .readPicks => n == 0
  | .readCollisions => n == 1
  | .readShortfall => n == 0
  | .readMembers => n == 0
  | .detach => n == 0
  | .rejoin => n == 0
  | .readStatus => n == 0
  | .readEvents => n == 0
  | .restart => n == 0

/-- The six draw commands (R161, third condition). -/
def isDrawCommand : Command → Bool
  | .fill | .copy | .line | .seek | .plot | .probe => true
  | _ => false

/-- Whether an entry's code is that of a draw command. It depends on the code alone (R161). -/
def Entry.isDraw (e : Entry) : Bool := (commandOf e.code).any isDrawCommand

/-- An ordinary entry whose code names no command (R162, step 2). -/
def Entry.isUnknown (e : Entry) : Bool := !e.bad && (commandOf e.code).isNone

/-- An ordinary entry whose payload length its command does not allow (R162, step 3). -/
def Entry.isBadLength (e : Entry) : Bool := !e.bad && (commandOf e.code).any (fun c => !commandAllows c e.length)

/-- An ordinary entry that goes to the block owning command `c` (R162, step 4). -/
def Entry.runs (c : Command) (e : Entry) : Bool :=
  !e.bad && commandOf e.code == some c && commandAllows c e.length

/-! ### Frames -/

/-- The sum of a frame's bytes modulo 256. -/
def frameSum (bytes : List Byte) : Byte := bytes.foldl (· + ·) 0#8

/-- What one frame's bytes are received as (R159). -/
inductive Received where
  | abort
  | restart
  | entry (e : Entry)
  deriving DecidableEq, Repr

/-- The bad-frame entry of a frame whose check failed or that was cut (R158, R159). -/
def badEntry (bytes : List Byte) : Entry :=
  { bad := true, code := bytes.getD 0 0#8, tag := bytes.getD 1 0#8, length := 0, payload := [] }

/-- The ordinary entry of a frame with a passing check; a length of 249 … 255 keeps no payload (R159). -/
def goodEntry (bytes : List Byte) : Entry :=
  let n := byteAt bytes 2
  { bad := false, code := bytes.getD 0 0#8, tag := bytes.getD 1 0#8, length := n,
    payload := if n ≤ 248 then (bytes.drop 3).take n else [] }

/-- What a frame is received as: a cut frame, a failed check, an immediate command, or an ordinary entry (R158,
R159, R164). -/
def receive (bytes : List Byte) : Received :=
  let frame := bytes.take (4 + byteAt bytes 2)
  if bytes.length < 4 + byteAt bytes 2 || frameSum frame != 0#8 then .entry (badEntry bytes)
  else if byteAt bytes 2 = 0 && commandOf (bytes.getD 0 0#8) == some .drawAbort then .abort
  else if byteAt bytes 2 = 0 && commandOf (bytes.getD 0 0#8) == some .restart then .restart
  else .entry (goodEntry bytes)

/-- A command frame without its check byte (Table 10-1). -/
def commandBody (code tag : Byte) (payload : List Byte) : List Byte := [code, tag, byte1 payload.length] ++ payload

/-- A command frame (Table 10-1). -/
def commandFrame (code tag : Byte) (payload : List Byte) : List Byte :=
  commandBody code tag payload ++ [-(frameSum (commandBody code tag payload))]

/-- The status byte (Table 10-3). -/
def statusByte : Status → Byte
  | .ok => 1#8
  | .badFrame => 2#8
  | .unknown => 3#8
  | .badLength => 4#8
  | .badField => 5#8
  | .full => 6#8
  | .wrongState => 7#8
  | .aborted => 8#8

/-- A response frame without its check byte (Table 10-2). -/
def responseBody (r : Response) : List Byte :=
  [r.tag, r.code, statusByte r.status, byte1 r.payload.length] ++ r.payload

/-- A response frame (Table 10-2). -/
def responseFrame (r : Response) : List Byte := responseBody r ++ [-(frameSum (responseBody r))]

/-! ### Draw payloads -/

/-- The operation field (Table 9-2). -/
def drawOpOf : Nat → Option DrawOp
  | 0 => some .set
  | 1 => some .and
  | 2 => some .or
  | 3 => some .xor
  | 4 => some .invert
  | _ => none

/-- A coordinate in the surface (R145). -/
def inAxis (n : Nat) : Bool := decide (n < surfaceSize)

/-- A width or height of FILL or COPY (R145). -/
def extentFits (n : Nat) : Bool := decide (1 ≤ n) && decide (n ≤ 512)

/-- The ranges of a draw command's fields (R145). -/
def drawFits : DrawCmd → Bool
  | .fill _ _ _ x y w h _ => inAxis x && inAxis y && extentFits w && extentFits h
  | .copy _ _ _ _ _ sx sy dx dy w h => inAxis sx && inAxis sy && inAxis dx && inAxis dy && extentFits w && extentFits h
  | .line _ _ _ x0 y0 x1 y1 _ => inAxis x0 && inAxis y0 && inAxis x1 && inAxis y1
  | .seek _ _ _ x y _ => inAxis x && inAxis y
  | .plot _ _ _ x y _ => inAxis x && inAxis y
  | .probe _ x y => inAxis x && inAxis y

/-- The draw command a payload spells, without the checks on its coordinates; `none` where an operation field is
5, 6 or 7 or a bit that Table 9-2 gives as 0 holds 1. -/
def drawSpelled (c : Command) (p : List Byte) : Option DrawCmd :=
  let m := p.getD 0 0#8
  let op := drawOpOf (m.extractLsb' 0 3).toNat
  let skip := m.getLsbD 3
  let sync := m.getLsbD 7
  match c with
  | .fill => if m &&& 0x70#8 = 0#8 then
      op.map fun o => .fill o skip sync (wordAt p 1) (wordAt p 3) (wordAt p 5) (wordAt p 7) (p.getD 9 0#8) else none
  | .copy => if m &&& 0x40#8 = 0#8 then
      op.map fun o => .copy o skip (m.getLsbD 4) (m.getLsbD 5) sync (wordAt p 1) (wordAt p 3) (wordAt p 5) (wordAt p 7)
        (wordAt p 9) (wordAt p 11) else none
  | .line => if m &&& 0x70#8 = 0#8 then
      op.map fun o => .line o skip sync (wordAt p 1) (wordAt p 3) (wordAt p 5) (wordAt p 7) (p.getD 9 0#8) else none
  | .seek => if m &&& 0x4F#8 = 0#8 then
      some (.seek (m.getLsbD 4) (m.getLsbD 5) sync (wordAt p 1) (wordAt p 3) (p.getD 5 0#8)) else none
  | .plot => if m &&& 0x70#8 = 0#8 then
      op.map fun o => .plot o skip sync (wordAt p 1) (wordAt p 3) (p.getD 5 0#8) else none
  | .probe => if m &&& 0x7F#8 = 0#8 then some (.probe sync (wordAt p 1) (wordAt p 3)) else none
  | _ => none

/-- The draw command a payload carries, or `none` where a check of R145 fails. -/
def readDraw (c : Command) (p : List Byte) : Option DrawCmd :=
  match drawSpelled c p with
  | some d => if drawFits d then some d else none
  | none => none

/-- The operation field of an operation (Table 9-2). -/
def drawOpCode : DrawOp → Nat
  | .set => 0
  | .and => 1
  | .or => 2
  | .xor => 3
  | .invert => 4

/-- The mode byte of a draw command (Table 9-2): operation, skip-zero, the two directions or the test, frame-sync. -/
def modeByte (op : Nat) (skip bit4 bit5 sync : Bool) : Byte :=
  BitVec.ofNat 8 (op + 8 * skip.toNat + 16 * bit4.toNat + 32 * bit5.toNat + 128 * sync.toNat)

/-- The payload of a draw command (Table 9-1). -/
def drawPayload : DrawCmd → List Byte
  | .fill op skip sync x y w h colour =>
    [modeByte (drawOpCode op) skip false false sync] ++ byte2 x ++ byte2 y ++ byte2 w ++ byte2 h ++ [colour]
  | .copy op skip left up sync sx sy dx dy w h =>
    [modeByte (drawOpCode op) skip left up sync] ++ byte2 sx ++ byte2 sy ++ byte2 dx ++ byte2 dy ++ byte2 w ++ byte2 h
  | .line op skip sync x0 y0 x1 y1 colour =>
    [modeByte (drawOpCode op) skip false false sync] ++ byte2 x0 ++ byte2 y0 ++ byte2 x1 ++ byte2 y1 ++ [colour]
  | .seek left differ sync x y value => [modeByte 0 false left differ sync] ++ byte2 x ++ byte2 y ++ [value]
  | .plot op skip sync x y colour => [modeByte (drawOpCode op) skip false false sync] ++ byte2 x ++ byte2 y ++ [colour]
  | .probe sync x y => [modeByte 0 false false false sync] ++ byte2 x ++ byte2 y

/-- The command of a draw command. -/
def drawCommand : DrawCmd → Command
  | .fill .. => .fill
  | .copy .. => .copy
  | .line .. => .line
  | .seek .. => .seek
  | .plot .. => .plot
  | .probe .. => .probe

/-- The code echoed in the response to a draw command (Table 10-6). -/
def drawCode : DrawCmd → Byte
  | .fill .. => 0x30#8
  | .copy .. => 0x31#8
  | .line .. => 0x32#8
  | .seek .. => 0x33#8
  | .plot .. => 0x34#8
  | .probe .. => 0x35#8

/-- The frame-sync flag of a draw command (Table 9-2). -/
def drawSync : DrawCmd → Bool
  | .fill _ _ sync _ _ _ _ _ => sync
  | .copy _ _ _ _ sync _ _ _ _ _ _ => sync
  | .line _ _ sync _ _ _ _ _ => sync
  | .seek _ _ sync _ _ _ => sync
  | .plot _ _ sync _ _ _ => sync
  | .probe sync _ _ => sync

/-! ### LDATA layouts -/

/-- The announce a station drives (R44). -/
def announceWord (code : Byte) (join : Bool) (nonce : BitVec 7) : Lines := (nonce ++ BitVec.ofBool join) ++ code

/-- The frame word a station drives: lines 8 … 15 released (R36). -/
def frameNumberWord (frame : Byte) : Lines := 0xFF#8 ++ frame

/-- The bid a station drives: every field as its complement (R68, Table 4-2). -/
def claimWord (key station object : Nat) : Lines :=
  ~~~(((1#1 ++ BitVec.ofNat 6 key) ++ BitVec.ofNat 3 station) ++ BitVec.ofNat 6 object)

/-- The object a claim round reads (R68, R69). -/
def claimObject (w : Lines) : Nat := ((~~~w).extractLsb' 0 6).toNat
/-- The station a claim round reads. -/
def claimStation (w : Lines) : Nat := ((~~~w).extractLsb' 6 3).toNat
/-- The key a claim round reads. -/
def claimKey (w : Lines) : Nat := ((~~~w).extractLsb' 9 6).toNat

/-- A blank round: the presence line reads 1 (R69). The winner phase of a column uses the same line (R94). -/
def isBlank (w : Lines) : Bool := w.getLsbD 15

/-- The winner phase word of a contribution (R94). -/
def winnerWord (slot : Nat) (colour : Byte) (watched : Bool) : Lines :=
  (((0#1 ++ 3#2) ++ BitVec.ofBool watched) ++ BitVec.ofNat 4 slot) ++ colour

/-- The slot a column reads (R94). -/
def winnerSlot (w : Lines) : Nat := (w.extractLsb' 8 4).toNat

/-- The join phase word of one join colour: its complement on lines 0 … 7 (R94). -/
def joinWord (colour : Byte) : Lines := 0xFF#8 ++ ~~~colour

/-- Lines 0 … 7 of LDATA. -/
def lowByte (w : Lines) : Byte := w.extractLsb' 0 8

/-- The stations driving a contested field: this station, unless it drives nothing or has withdrawn, and others. -/
structure Contest where
  own : Option Lines
  rivals : List Lines
  deriving DecidableEq, Repr

/-- What LDATA delivers: the wired-AND of every driver and of all else held on the lines (R25). -/
def Contest.bus (held : Lines) (c : Contest) : Lines :=
  c.rivals.foldl (· &&& ·) (held &&& c.own.getD released)

/-- A driver that leaves line `l` released and finds it reading 0 has lost and withdraws (R69, R94). -/
def staysOn (bus : Lines) (l : Nat) (w : Lines) : Bool := !w.getLsbD l || bus.getLsbD l

/-- One line settles. -/
def Contest.settleLine (held : Lines) (c : Contest) (l : Nat) : Contest :=
  let bus := c.bus held
  { own := c.own.filter (staysOn bus l), rivals := c.rivals.filter (staysOn bus l) }

/-- What else LDATA carries as the contested line of a number, in their order, settles. -/
def carriedAt (held : Carried) (k : Nat) : Lines := held.settling.getD k held.reading

/-- The lines settle one at a time, in the order given. What else the link carries may differ from line to line (R69, R78,
R94, R99). The spec gives no moments at which the lines settle; that each settles with one value of all else is a DESIGN
CHOICE (log entry 15). -/
def Contest.settle (held : Carried) (lines : List Nat) (c : Contest) : Contest :=
  lines.zipIdx.foldl (fun c p => c.settleLine (carriedAt held p.2) p.1) c

/-- The key lines of a claim round, in the order they settle (R69). -/
def keyLines : List Nat := [14, 13, 12, 11, 10, 9]

/-- The slot lines of a column, in the order they settle (R94). -/
def slotLines : List Nat := [11, 10, 9, 8]

end Sys2Proof.Machine
end

