-- ==== Sys2Proof/Machine/Flags.lean ====
section
/-! DEFINITION. The station's flags and output pins: the Event Set and the interrupt line (R166 … R168), the
sync outputs (R104), the video pins (R103), and the status bytes of READ STATUS (R169, Table 10-7). -/

namespace Sys2Proof.Machine

/-- A count that stays at 255 (R166, R81). -/
def saturate (n : Nat) : Nat := min 255 n

/-- One more of a kind, up to 255 (R166). -/
def Events.raise (k : EventKind) (e : Events) : Events :=
  match k with
  | .collision => { e with collision := saturate (e.collision + 1) }
  | .logFull => { e with logFull := saturate (e.logFull + 1) }
  | .pick => { e with pick := saturate (e.pick + 1) }
  | .pickLost => { e with pickLost := saturate (e.pickLost + 1) }
  | .shortfall => { e with shortfall := saturate (e.shortfall + 1) }
  | .members => { e with members := saturate (e.members + 1) }
  | .state => { e with state := saturate (e.state + 1) }
  | .slip => { e with slip := saturate (e.slip + 1) }
  | .overrun => { e with overrun := saturate (e.overrun + 1) }

/-- The nine counts in the order of Table 10-5 (R167). -/
def Events.counts (e : Events) : List Nat :=
  [e.collision, e.logFull, e.pick, e.pickLost, e.shortfall, e.members, e.state, e.slip, e.overrun]

/-- A block raises a kind of event. -/
def State.raise (s : State) (k : EventKind) : State :=
  { s with port := { s.port with events := s.port.events.raise k } }

/-- INT is asserted while the Event Set holds a kind or the Response Queue holds a response (R168). -/
def State.interrupt (s : State) : Bool := s.port.events != .none || s.port.responses != []

/-- VSYNC as the sync outputs make it: synced, with the line counter at T − 3, T − 2 or T − 1 (R104). -/
def State.vsync (s : State) : Bool := s.link.synced && decide (s.geometry.totalLines ≤ s.link.lineCounter + 3)

/-- The HSYNC pin; `none` is not driven, with the video output strap off (R103). -/
def State.hsyncPin (s : State) : Option Bool := if s.straps.video then some s.output.hsync else none

/-- The VSYNC pin; `none` is not driven (R103). -/
def State.vsyncPin (s : State) : Option Bool := if s.straps.video then some s.vsync else none

/-- The RGB pins; `none` is not driven (R103). -/
def State.rgbPins (s : State) : Option Rgb := if s.straps.video then some s.output.rgb else none

/-- The own state byte (Table 10-7). -/
def ownStateByte : OwnState → Byte
  | .listen => 0#8
  | .founding => 1#8
  | .joining => 2#8
  | .member => 3#8
  | .conflict => 4#8
  | .refused => 5#8
  | .detached => 6#8

/-- The engine state byte (Table 10-7); a stopping engine is RUNNING (R155). -/
def engineByte : EngineMode → Byte
  | .idle => 0#8
  | .waiting _ => 1#8
  | .running _ _ => 2#8
  | .stopping _ _ _ => 2#8

/-- The sixteen bytes of READ STATUS (Table 10-7). -/
def State.statusBytes (s : State) : List Byte :=
  [ownStateByte s.member.own, byte1 s.stationNumber, byte1 s.straps.preset.toNat, s.geometry.code,
    byte1 s.link.synced.toNat, s.link.frameNumber] ++ byte2 s.link.lineCounter
    ++ [engineByte s.engine.mode, byte1 s.engine.queue.length, byte1 s.port.commands.length,
      byte1 s.port.responses.length, byte1 s.collisions.length, byte1 s.picks.queue.length,
      byte1 s.table.updates.length, byte1 s.picks.points.length]

end Sys2Proof.Machine
end

