-- ==== Sys2Proof/Machine/Ops.lean ====
section
/-! DEFINITION. The named operations the meanings share: the surface memory, taking and answering commands
(R161, R163), the Store Arbiter's choice (R133), the passing of pixel times (R23), driving and reading LDATA
(R25), and a change of the own membership state (R43). -/

namespace Sys2Proof.Machine

/-! ### When a happening takes place -/

/-- A happening takes place when the reset pin is released and its condition holds; otherwise it does not come
about and the state stays as it is (log entries 2 and 12). -/
def State.happening (s : State) (enabled : Bool) (f : State → State) : Host.Outcome State Fault Refusal :=
  .next (if !s.resetPin && enabled then f s else s)

/-- A happening that makes an access, and faults where the access names a place that does not exist (R131). -/
def State.accessing (s : State) (enabled : Bool) (fault : Option Fault) (f : State → State) :
    Host.Outcome State Fault Refusal :=
  if !s.resetPin && enabled then
    match fault with
    | some r => .fault r
    | none => .next (f s)
  else .next s

/-! ### The surface memory -/

/-- What an address with no cell reads as: the value the reset pin sets (R131). -/
def unlistedByte : Byte := 0#8

/-- The byte at an address. -/
def Memory.read : Memory → Nat → Byte
  | [], _ => unlistedByte
  | (b, v) :: rest, a => if a = b then v else Memory.read rest a

/-- Sets the byte at an address, keeping the canonical form. -/
def Memory.write : Memory → Nat → Byte → Memory
  | [], a, v => if v = unlistedByte then [] else [(a, v)]
  | (b, w) :: rest, a, v =>
    if a < b then (if v = unlistedByte then (b, w) :: rest else (a, v) :: (b, w) :: rest)
    else if a = b then (if v = unlistedByte then rest else (b, v) :: rest)
    else (b, w) :: Memory.write rest a v

/-- The canonical form: addresses strictly rising, no cell equal to what an unlisted address reads as. -/
def Memory.wf (m : Memory) : Bool :=
  decide (m.Pairwise fun p q => p.1 < q.1) && m.all fun c => c.2 != unlistedByte

/-- The address of surface position (x, y). -/
def pixelAddress (x y : Nat) : Nat := surfaceSize * y + x

/-- Whether a position lies on the surface (R131). -/
def inSurface (x y : Nat) : Bool := inAxis x && inAxis y

/-- The index a surface pixel holds. -/
def State.pixel (s : State) (x y : Nat) : Byte := Memory.read s.surface (pixelAddress x y)

/-- A write access sets a surface pixel (R132). -/
def State.setPixel (s : State) (x y : Nat) (v : Byte) : State :=
  { s with surface := Memory.write s.surface (pixelAddress x y) v }

/-- The fault of an access at a position: none on the surface. -/
def surfaceFault (x y : Nat) : Option Fault := if inSurface x y then none else some (.surfaceOutside x y)

/-- A run of entries of a list replaced by the values given, in order. -/
def setRun {α : Type} (l : List α) (start : Nat) (values : List α) : List α :=
  l.take start ++ values ++ l.drop (start + values.length)

/-! ### Answering and taking commands -/

/-- A response enters the Response Queue (R163). -/
def State.respond (s : State) (tag code : Byte) (status : Status) (payload : List Byte) : State :=
  { s with port := { s.port with responses := s.port.responses ++
      [{ tag := tag, code := code, status := status, payload := payload }] } }

/-- The response to a command taken from the Command Queue. -/
def State.answer (s : State) (e : Entry) (status : Status) (payload : List Byte) : State :=
  s.respond e.tag e.code status payload

/-- The draw commands that have left the Draw Queue and are not yet answered (R141; log entry 11). -/
def engineHeld : EngineMode → Nat
  | .idle => 0
  | .waiting _ => 1
  | .running _ _ => 1
  | .stopping _ _ aborted => 1 + aborted.length

/-- The draw commands accepted and not yet answered (R141, R161). -/
def State.unanswered (s : State) : Nat := engineHeld s.engine.mode + s.engine.queue.length

/-- The three conditions of R161 under which the entry at the head is taken. -/
def State.mayTake (s : State) (e : Entry) : Bool :=
  s.port.transfer.isNone && decide (s.port.responses.length + s.unanswered < responseBudget)
    && (!e.isDraw || decide (s.engine.queue.length < drawCapacity))

/-- The head of the Command Queue, where it is one that the row takes and R161 lets it be taken. -/
def State.takeable (s : State) (row : Entry → Bool) : Option Entry :=
  match s.port.commands with
  | [] => none
  | e :: _ => if row e && s.mayTake e then some e else none

/-- The entry at the head leaves the Command Queue (R160). -/
def State.dropHead (s : State) : State := { s with port := { s.port with commands := s.port.commands.tail } }

/-- The head is taken and carried out; while it is not takeable, it waits (R161). -/
def State.taking (s : State) (row : Entry → Bool) (act : Entry → State → State) :
    Host.Outcome State Fault Refusal :=
  match s.takeable row with
  | none => .next s
  | some e => s.happening true fun s => act e s.dropHead

/-! ### The Store Arbiter -/

/-- Whether the engine has an access waiting or being served: it does exactly while RUNNING (R143, R144). -/
def EngineMode.presents : EngineMode → Bool
  | .idle => false
  | .waiting _ => false
  | .running _ _ => true
  | .stopping _ _ _ => true

/-- Whether a client has an access at the arbiter. -/
def State.presents (s : State) : Client → Bool
  | .fetch => s.lines.fetching
  | .port => s.port.transfer.isSome
  | .engine => s.engine.mode.presents

/-- Whether the arbiter's order lets it serve a client's access: no higher client waits, or the access may have been
under service when the higher client's access arrived, the first of a fetch or of a transfer (R133; log entry 9). A client
that goes on has its next access waiting as the arbiter chooses again, so that the fetch keeps the surface for as long as it
runs, and no access of another client falls between two of its reads (R133, Table 8-1), although R90 and R138 say that one
may: DESIGN CHOICE (log entry 30). -/
def State.inOrder (s : State) : Client → Bool
  | .fetch => true
  | .port => !s.presents .fetch || s.arbiter.portMayHold
  | .engine => !(s.presents .fetch || s.presents .port) || s.arbiter.engineMayHold

/-- The client whose access is known to be under service; an access that its client has withdrawn is no longer held. -/
def State.heldClient (s : State) : Option Client := s.arbiter.held.filter s.presents

/-- Whether the arbiter may be serving a client's access: the one known to be under service, and no other until it has
ended; where none is known, one that its order allows (R133; log entry 9). -/
def State.mayServe (s : State) (c : Client) : Bool :=
  s.presents c && (match s.heldClient with
    | some h => h == c
    | none => s.inOrder c)

/-- The client whose access the arbiter is serving as a frame arrives: the one already known, or the one the frame's
happening names, where the arbiter may be serving it (R139, R155; log entry 9). -/
def State.serving (s : State) (named : Option Client) : Option Client := s.heldClient.or (named.filter s.mayServe)

/-- The access that is being served as a frame arrives keeps the arbiter until it ends, and where none is, the arbiter chooses
among the waiting accesses by its order: either way no other access is still under service from before (R133). -/
def State.hold (s : State) (named : Option Client) : State :=
  { s with arbiter := { portMayHold := false, engineMayHold := false, held := s.serving named } }

/-- After any access has been served, the arbiter chooses again among the waiting accesses, that client's next among them
(R133; log entry 30). -/
def State.served (s : State) : State :=
  { s with arbiter := { portMayHold := false, engineMayHold := false, held := none } }

/-- The port presents the first access of a transfer: an engine access may be under service before it. -/
def State.portPresents (s : State) : State :=
  { s with arbiter := { s.arbiter with engineMayHold := s.mayServe .engine } }

/-- The fetch presents its first access: a port or engine access may be under service before it. -/
def State.fetchPresents (s : State) : State :=
  { s with arbiter := { portMayHold := s.mayServe .port, engineMayHold := s.mayServe .engine, held := s.heldClient } }

/-! ### Pixel times -/

/-- Whether the line has not reached its own end. A line that runs past it holds nothing further until the next leading edge:
no round, no field of the announce window and no column (R29, R98). -/
def State.lineHolds (s : State) : Bool := decide (s.link.pixelTime < s.geometry.linePixels)

/-- How long a driven mark is asserted, counted from the leading edge (R24). -/
def markLength : MarkKind → Nat
  | .line => 2
  | .frame => 8

/-- `n` pixel times pass, with no happening in them: the position, the line timer and the silence count go on
(R23, R30, R32), the fields driven are over, a driven mark and the HSYNC pulse end at their lengths (R24, R104), and
RGB is at level 0 (R103). -/
def State.passTime (s : State) (n : Nat) : State :=
  let g := s.geometry
  let at' := s.link.pixelTime + n
  let silent := s.link.silencePixels + n
  { s with
    link := { s.link with
      lineTimer := s.link.lineTimer.map fun t => min g.linePixels (t + n)
      silenceCount := min (2 * g.totalLines) (s.link.silenceCount + silent / g.linePixels)
      silencePixels := silent % g.linePixels
      pixelTime := at'
      lmark := s.link.lmark.filter fun k => decide (at' < markLength k)
      ldata := released
      ldataJoin := released }
    output := { s.output with rgb := .black, hsync := s.output.hsync && decide (at' < 8) } }

/-- Pixel times pass until position `p` of the line, if it has not been reached (log entry 4). -/
def State.reach (s : State) (p : Nat) : State :=
  if s.link.pixelTime < p then s.passTime (p - s.link.pixelTime) else s

/-- What an idle step does: one pixel time passes; not while the reset pin is asserted (log entry 3). -/
def State.tick (s : State) : State := if s.resetPin then s else s.passTime 1

/-- What the station drives on LDATA in a field, for the record of the field just ended. -/
def State.drive (s : State) (w : Lines) : State := { s with link := { s.link with ldata := w, ldataJoin := released } }

/-! ### The own membership state -/

/-- The states that drive marks, the frame word and announces (R41). -/
def OwnState.drives : OwnState → Bool
  | .founding | .joining | .member => true
  | .listen | .conflict | .refused | .detached => false

/-- The pixel time of the decision point (R24). -/
def decisionPoint : Nat := 4

/-- Whether the own frame assertion has stood past the decision point: released after it, it still makes the mark a frame
mark; released before it, it does not (R24, R30, R39). -/
def LinkTiming.frameStood (link : LinkTiming) : Bool := link.frameDriven && decide (decisionPoint < link.pixelTime)

/-- The station releases every line it is driving, a mark before its end among them (R30, R39, R43). -/
def State.releaseLines (s : State) : State :=
  { s with link := { s.link with
      lmark := none, frameDriven := s.link.frameStood, ldata := released, ldataJoin := released } }

/-- The line timer runs in the driving states and is stopped in every other; one that starts runs from the leading
edge of the last mark taken (R30). -/
def timerIn (own : OwnState) (link : LinkTiming) : Option Nat :=
  if own.drives then some (link.lineTimer.getD link.pixelTime) else none

/-- The pixel time of line A at which its frame word begins, and the announce window with it (R28, R36; log entry 29). -/
def frameWordStart : Nat := 8

/-- Whether a window the station holds has begun at a position of its line (R28, R36; log entry 29). -/
def AnnounceWindow.begun (w : AnnounceWindow) (time : Nat) : Bool := w.wordRead || decide (frameWordStart ≤ time)

/-- The window as the station enters a state at a position of its line: it counts where it is still to begin and the state is
LISTEN (R52, R65). -/
def AnnounceWindow.entering (new : OwnState) (time : Nat) (w : AnnounceWindow) : AnnounceWindow :=
  { w with listening := new == .listen && !w.begun time }

/-- The own state changes: STATE is raised, the listen and window wait counts are set to 0, the admitted and detach
pending flags are cleared, the line timer follows the new state, and a station that no longer drives releases its
lines (R43, R52, R55, R64, R30). A window in progress no longer counts as listened to; one still to begin counts where the
new state is LISTEN (R52, R65; log entries 23 and 29). -/
def State.changeState (s : State) (new : OwnState) : State :=
  let s1 := if new.drives then s else s.releaseLines
  { s1 with
    link := { s1.link with lineTimer := timerIn new s1.link }
    member := { s1.member with
      own := new, listenCount := 0, windowWait := 0, admitted := false, detachPending := false,
      announce := s1.member.announce.map (.entering new s.link.pixelTime) } }.raise .state

/-- Whether the station is MEMBER. -/
def State.isMember (s : State) : Bool := s.member.own == .member

end Sys2Proof.Machine
end

