-- ==== Sys2Proof/Machine/Claims.lean ====
section
/-! DEFINITION. The Line Scanner's candidate formation (R18 … R22), the claim window (Chapter 4), the shortfall records
(R81 … R85), the start of the fetch (R87), and the happening CLAIM_ROUND. -/

namespace Sys2Proof.Machine

/-! ### Candidate formation -/

/-- A captured copy of a record (R20). -/
def captureRecord (number : Nat) (r : ObjectRecord) : Candidate :=
  { object := number, screenX := r.screenX, screenY := r.screenY, width := r.width, height := r.height,
    sourceX := r.sourceX, sourceY := r.sourceY, cls := r.cls, join := r.join, watched := r.watched,
    mirror := r.mirror, tint := r.tint }

/-- Whether a SHOWN record covers line `L` (R19). -/
def coversLine (L : Nat) (r : ObjectRecord) : Bool := decide (r.screenY ≤ L) && decide (L < r.screenY + r.height)

/-- The records selected for line `L`, scanning from record number `i` up to the first TERMINAL record (R19). -/
def scanRecords (L : Nat) : Nat → List ObjectRecord → List Candidate
  | _, [] => []
  | i, r :: rest =>
    match r.state with
    | .terminal => []
    | .shown => if coversLine L r then captureRecord i r :: scanRecords L (i + 1) rest else scanRecords L (i + 1) rest
    | .empty => scanRecords L (i + 1) rest
    | .hidden => scanRecords L (i + 1) rest

/-- The classes, highest first. -/
def classesDown : List Nat := [7, 6, 5, 4, 3, 2, 1, 0]

/-- Class descending, the order of object numbers kept within a class (R20). -/
def orderCandidates (l : List Candidate) : List Candidate := classesDown.flatMap fun c => l.filter fun k => k.cls == c

/-- All records selected for line `L`, in the order of R20. -/
def State.selected (s : State) (L : Nat) : List Candidate := orderCandidates (scanRecords L 0 s.table.objects)

/-! ### Denial and the shortfall records -/

/-- One denial of an object on line `L`, by local overflow or not (R82). -/
def Shortfall.deny (L : Nat) (overflow : Bool) (r : Shortfall) (object : Nat) : Shortfall :=
  { r with
    firstLine := if r.firstLine.isNone then some L else r.firstLine
    firstObject := if r.firstLine.isNone then some object else r.firstObject
    denied := saturate (r.denied + 1)
    overflow := if overflow then saturate (r.overflow + 1) else r.overflow }

/-- The candidates given are denied on line `L`, in their order (R76, R82). -/
def State.denyAll (s : State) (L : Nat) (overflow : Bool) (l : List Candidate) : State :=
  { s with claim := { s.claim with
      current := (l.map Candidate.object).foldl (Shortfall.deny L overflow) s.claim.current } }

/-- The records turn over at a frame mark, with the frame number as the mark leaves it (R83). -/
def State.turnOver (s : State) : State :=
  let s' := if 1 ≤ s.claim.current.denied then s.raise .shortfall else s
  { s' with claim := { s'.claim with last := s.claim.current, current := .cleared s.link.frameNumber } }

/-! ### Opening the window -/

/-- Candidate formation for line `L`, with the local overflow denied (R18 … R21). -/
def State.formCandidates (s : State) (L : Nat) : State :=
  ({ s with claim := { s.claim with candidates := (s.selected L).take candidateCapacity } }).denyAll L true
    ((s.selected L).drop candidateCapacity)

/-- The claim window opens: grant list, own grants and line buffer are emptied (R70, R79, R86). -/
def State.openWindow (s : State) : State :=
  { s with
    claim := { s.claim with window := some 0, grants := [], ownGrants := [] }
    lines := { s.lines with buffer := [], fetching := false, column := none } }

/-- A mark opens active line `L`: formation, then the claim window (Figure 4-1). -/
def State.openActiveLine (s : State) (L : Nat) : State := (s.formCandidates L).openWindow

/-! ### Closing the window and starting the fetch -/

/-- The row of art a captured copy shows on line `L` (R88). -/
def Candidate.row (c : Candidate) (L : Nat) : Nat := L - c.screenY

/-- A row joins the line buffer with no pixel read (R86, R87). -/
def startRow (g : OwnGrant) : Row :=
  { slot := g.slot, object := g.copy.object, cls := g.copy.cls, join := g.copy.join, watched := g.copy.watched,
    first := g.copy.screenX, width := g.copy.width, pixels := [], complete := false }

/-- The fetch begins at the close of a window, in MEMBER with own grants (R87). -/
def State.startFetch (s : State) : State :=
  match s.claim.ownGrants with
  | [] => s
  | g :: _ =>
    if s.isMember then
      let s' := s.fetchPresents
      { s' with lines := { s'.lines with buffer := [startRow g], fetching := true } }
    else s

/-- The window closes at the end of a round: the candidates left are denied, the fetch begins, and the active part
follows (R76, R80, R87). -/
def State.closeWindow (s : State) : State :=
  let s1 := s.denyAll s.link.lineCounter false s.claim.candidates
  let s2 := { s1 with
    claim := { s1.claim with window := none }
    lines := { s1.lines with column := some 0 } }
  s2.startFetch

/-- A window still open closes at a leading edge: the candidates left are denied; no fetch and no active part
(R77). -/
def State.cutWindow (s : State) : State :=
  match s.claim.window with
  | none => s
  | some _ =>
    let s1 := s.denyAll s.link.lineCounter false s.claim.candidates
    { s1 with claim := { s1.claim with window := none } }

/-! ### A round -/

/-- The rotated rank of a station in a frame: 7 − ((station − frame) mod 8) (R66). -/
def rotatedRank (station frame : Nat) : Nat := 7 - (station + (8 - frame % 8)) % 8

/-- The key of a candidate of a class (R66). -/
def claimKeyOf (cls station frame : Nat) : Nat := cls * 8 + rotatedRank station frame

/-- The key this station drives for a candidate (R66, R67). -/
def State.keyFor (s : State) (c : Candidate) : Nat := claimKeyOf c.cls s.stationNumber s.link.frameNumber.toNat

/-- The candidate a round bids for: the head of the list, in MEMBER (R71). -/
def State.bidder (s : State) : Option Candidate := if s.isMember then s.claim.candidates.head? else none

/-- The word the station drives as the round begins (R68, R71). -/
def State.bidWord (s : State) : Option Lines :=
  s.bidder.map fun c => claimWord (s.keyFor c) s.stationNumber c.object

/-- The round as it has settled. -/
def State.settledRound (s : State) (bids : List Lines) (held : Carried) : Contest :=
  Contest.settle held keyLines { own := s.bidWord, rivals := bids }

/-- Whether a pair already stands in the grant list (R73). -/
def State.pairGranted (s : State) (station object : Nat) : Bool :=
  s.claim.grants.any fun g => g.station == station && g.object == object

/-- Whether the bidder read back its own station and object (R74). -/
def State.readsOwn (s : State) (word : Lines) (c : Candidate) : Bool :=
  claimStation word == s.stationNumber && claimObject word == c.object

/-- The head has won the round in slot `r`: it moves into the own grants (R74). -/
def State.grantHead (s : State) (r : Nat) (c : Candidate) : State :=
  { s with claim := { s.claim with
      candidates := s.claim.candidates.tail
      ownGrants := s.claim.ownGrants ++ [{ slot := r, copy := c }] } }

/-- The entry of a round that is not blank and does not repeat a pair (R72). -/
def State.recordGrant (s : State) (r : Nat) (word : Lines) : State :=
  { s with claim := { s.claim with grants := s.claim.grants ++
      [{ slot := r, station := claimStation word, object := claimObject word, cls := claimKey word / 8 }] } }

/-- The bidder compares the round with its bid: it wins where it did not withdraw and reads its own station and
object in a round that is recorded (R74); where the key read is its own and the station or object differs, it goes to
CONFLICT (R75). -/
def State.compareBid (s : State) (r : Nat) (word : Lines) (stayed repeated : Bool) : State :=
  match s.bidder with
  | none => s
  | some c =>
    if s.readsOwn word c then (if stayed && !repeated then s.grantHead r c else s)
    else if claimKey word == s.keyFor c then s.changeState .conflict
    else s

/-- A round that is not blank: compared, recorded unless it repeats a pair, and the window closed after a repeated
pair or round 15 (R72, R73, R76). -/
def State.drivenRound (s : State) (r : Nat) (word : Lines) (stayed : Bool) : State :=
  let repeated := s.pairGranted (claimStation word) (claimObject word)
  let s1 := s.compareBid r word stayed repeated
  let s2 := if repeated then s1 else s1.recordGrant r word
  if repeated || decide (slotCount ≤ r + 1) then s2.closeWindow
  else { s2 with claim := { s2.claim with window := some (r + 1) } }

/-- Round `r` ends, with what the other stations bid and what else the link carries as the key lines settle and as the round
is read, partly formed values among it (R69 … R76, R78). The reading is one value, at the end of the round; where what the
link carries changes within the round's three pixel times, the moments are a DESIGN CHOICE (R70; log entry 15). -/
def State.endRound (s : State) (r : Nat) (bids : List Lines) (held : Carried) : State :=
  let settled := s.settledRound bids held
  let word := settled.bus held.reading
  let driven := s.drive (s.bidWord.getD released)
  if isBlank word then driven.closeWindow else driven.drivenRound r word settled.own.isSome

/-- The pixel time at which round `r` ends (R70). -/
def roundEnd (r : Nat) : Nat := 10 + 3 * r

/-- The happening of a claim round's end, in a window the station holds. -/
def State.claimRoundEnds (s : State) (bids : List Lines) (held : Carried) : State :=
  match s.claim.window with
  | none => s
  | some r => (s.reach (roundEnd r)).endRound r bids held

/-- CLAIM_ROUND: at the end of a claim round of a window it holds, the station reads the round (R69 … R76); a line that has run
past its own end holds no round (R29). -/
def execClaimRound (bids : List Lines) (held : Carried) (s : State) : Host.Outcome State Fault Refusal :=
  s.happening s.lineHolds fun s => s.claimRoundEnds bids held

end Sys2Proof.Machine
end

