-- ==== Sys2Proof/Machine/Engine.lean ====
section
/-! DEFINITION. The Drawing Engine (Chapter 9): extents, operations, end states, taking and ending commands, and the
happenings FILL, COPY, LINE, SEEK, PLOT, PROBE and ENGINE_ACCESS_SERVED. -/

namespace Sys2Proof.Machine

/-! ### What a draw command processes -/

/-- The value an operation forms from source `s` and destination `d` (Table 9-3). -/
def DrawOp.apply (op : DrawOp) (s d : Byte) : Byte :=
  match op with
  | .set => s
  | .and => d &&& s
  | .or => d ||| s
  | .xor => d ^^^ s
  | .invert => ~~~s

/-- The part of an extent that lies before the surface's edge (R147). -/
def cutExtent (extent start : Nat) : Nat := min extent (surfaceSize - start)

/-- The cut width of FILL and COPY (R147). -/
def cutWidth : DrawCmd → Nat
  | .fill _ _ _ x _ w _ _ => cutExtent w x
  | .copy _ _ _ _ _ sx _ dx _ w _ => min (cutExtent w sx) (cutExtent w dx)
  | _ => 1

/-- The cut height of FILL and COPY (R147). -/
def cutHeight : DrawCmd → Nat
  | .fill _ _ _ _ y _ h _ => cutExtent h y
  | .copy _ _ _ _ _ _ sy _ dy _ h => min (cutExtent h sy) (cutExtent h dy)
  | _ => 1

/-- The distance between two coordinates. -/
def span (a b : Nat) : Nat := (a - b) + (b - a)

/-- `k` steps from `a` toward `b`. -/
def toward (a b k : Nat) : Nat := if a ≤ b then a + k else a - k

/-- The minor offset at step `i` (R150). -/
def minorOffset (major minor i : Nat) : Nat := if major = 0 then 0 else (2 * i * minor + major) / (2 * major)

/-- The pixel of a line at step `i`; a tie of the deltas goes to x (R150). -/
def linePoint (x0 y0 x1 y1 i : Nat) : Nat × Nat :=
  let dx := span x0 x1
  let dy := span y0 y1
  if dy ≤ dx then (toward x0 x1 i, toward y0 y1 (minorOffset dx dy i))
  else (toward x0 x1 (minorOffset dy dx i), toward y0 y1 i)

/-- The columns a SEEK may examine (R152). -/
def seekLimit (left : Bool) (x : Nat) : Nat := if left then x + 1 else surfaceSize - x

/-- The column a SEEK examines at index `i` (R152). -/
def seekColumn (left : Bool) (x i : Nat) : Nat := if left then x - i else x + i

/-- The pixels a command has in all (for SEEK, at most). -/
def pixelCount : DrawCmd → Nat
  | .fill op skip sync x y w h colour =>
    cutWidth (.fill op skip sync x y w h colour) * cutHeight (.fill op skip sync x y w h colour)
  | .copy op skip left up sync sx sy dx dy w h =>
    cutWidth (.copy op skip left up sync sx sy dx dy w h) * cutHeight (.copy op skip left up sync sx sy dx dy w h)
  | .line _ _ _ x0 y0 x1 y1 _ => max (span x0 x1) (span y0 y1) + 1
  | .seek left _ _ x _ _ => seekLimit left x
  | .plot .. => 1
  | .probe .. => 1

/-- A FILL, LINE or PLOT of colour 0 with skip-zero presents no access at all (R146). -/
def presentsNothing : DrawCmd → Bool
  | .fill _ skip _ _ _ _ _ colour => skip && colour == 0#8
  | .line _ skip _ _ _ _ _ colour => skip && colour == 0#8
  | .plot _ skip _ _ _ colour => skip && colour == 0#8
  | .copy .. => false
  | .seek .. => false
  | .probe .. => false

/-- The offset of row or column `i` of `n`, taken forward or backward (R149). -/
def offsetOf (backward : Bool) (n i : Nat) : Nat := if backward then n - 1 - i else i

/-- The row and column offsets of the pixel of a COPY at index `i` (R149). -/
def copyOffsets (left up : Bool) (cw ch i : Nat) : Nat × Nat := (offsetOf left cw (i % cw), offsetOf up ch (i / cw))

/-- The position of the access a command has at the arbiter. -/
def accessPosition (d : DrawCmd) (p : Progress) : Nat × Nat :=
  match d with
  | .fill op skip sync x y w h colour =>
    let cw := cutWidth (.fill op skip sync x y w h colour)
    (x + p.done % cw, y + p.done / cw)
  | .copy op skip left up sync sx sy dx dy w h =>
    let o := copyOffsets left up (cutWidth (.copy op skip left up sync sx sy dx dy w h))
      (cutHeight (.copy op skip left up sync sx sy dx dy w h)) p.done
    if p.source.isSome then (dx + o.1, dy + o.2) else (sx + o.1, sy + o.2)
  | .line _ _ _ x0 y0 x1 y1 _ => linePoint x0 y0 x1 y1 p.done
  | .seek left _ _ x y _ => (seekColumn left x p.done, y)
  | .plot _ _ _ x y _ => (x, y)
  | .probe _ x y => (x, y)

/-- The value the access writes, given the index its pixel holds; `none` for a read access (R146, R149, R152, R153). -/
def accessWrite (d : DrawCmd) (p : Progress) (old : Byte) : Option Byte :=
  match d with
  | .fill op _ _ _ _ _ _ colour => some (op.apply colour old)
  | .copy op _ _ _ _ _ _ _ _ _ _ => p.source.map fun s => op.apply s old
  | .line op _ _ _ _ _ _ colour => some (op.apply colour old)
  | .seek .. => none
  | .plot op _ _ _ _ colour => some (op.apply colour old)
  | .probe .. => none

/-- The progress after the access has been served, given the index its pixel held. -/
def progressAfter (d : DrawCmd) (p : Progress) (old : Byte) : Progress :=
  match d with
  | .copy _ skip _ _ _ _ _ _ _ _ _ =>
    match p.source with
    | none => if skip && old == 0#8 then { p with done := p.done + 1 } else { p with source := some old }
    | some _ => { p with done := p.done + 1, source := none }
  | .seek _ differ _ _ _ value => { p with done := p.done + 1, found := (old == value) != differ }
  | .probe .. => { p with done := p.done + 1, value := old }
  | .fill .. | .line .. | .plot .. => { p with done := p.done + 1 }

/-- Whether a command has processed all its pixels (R148 … R153). -/
def hasEnded (d : DrawCmd) (p : Progress) : Bool :=
  match d with
  | .seek .. => p.found || decide (pixelCount d ≤ p.done)
  | .fill .. | .copy .. | .line .. | .plot .. | .probe .. => decide (pixelCount d ≤ p.done)

/-! ### End states (Table 9-4) -/

/-- The row index that holds the last pixel processed, or the first row with none processed (R154). -/
def lastRowIndex (cw done : Nat) : Nat := if done = 0 then 0 else (done - 1) / cw

/-- The end state of a command that has begun, at its progress. -/
def endState (d : DrawCmd) (p : Progress) : List Byte :=
  match d with
  | .fill .. => byte2 (cutWidth d) ++ byte2 (p.done / cutWidth d) ++ byte2 (p.done % cutWidth d)
  | .copy _ _ _ up _ _ sy _ dy _ _ =>
    let r := offsetOf up (cutHeight d) (lastRowIndex (cutWidth d) p.done)
    byte2 (cutWidth d) ++ byte2 (p.done / cutWidth d) ++ byte2 (p.done % cutWidth d) ++ byte2 (sy + r) ++ byte2 (dy + r)
  | .line .. => byte2 p.done
  | .seek left _ _ x _ _ => [byte1 p.found.toNat] ++ byte2 (seekColumn left x (p.done - 1)) ++ byte2 p.done
  | .plot .. => []
  | .probe .. => [p.value]

/-- The end state of a command that has not begun: zero progress (R154). -/
def zeroState (d : DrawCmd) : List Byte :=
  match d with
  | .fill .. => byte2 0 ++ byte2 0 ++ byte2 0
  | .copy _ _ _ up _ _ sy _ dy _ _ =>
    let r := offsetOf up (cutHeight d) 0
    byte2 0 ++ byte2 0 ++ byte2 0 ++ byte2 (sy + r) ++ byte2 (dy + r)
  | .line .. => byte2 0
  | .seek .. => [0#8] ++ byte2 0 ++ byte2 0
  | .plot .. => []
  | .probe .. => [0#8]

/-- The progress of a command all of whose pixels are processed without an access (R146). -/
def allProcessed (d : DrawCmd) : Progress := { Progress.none with done := pixelCount d }

/-! ### The engine's operations -/

/-- A draw command is answered (R154, R155). -/
def State.answerDraw (s : State) (e : DrawEntry) (status : Status) (payload : List Byte) : State :=
  s.respond e.tag (drawCode e.cmd) status payload

/-- The engine takes the oldest of the queued commands given and enters WAITING or RUNNING, or goes to IDLE where
there is none; a command that presents no access ends at once, and the next is taken (R143, R146). -/
def engineLoad : List DrawEntry → State → State
  | [], s => { s with engine := { mode := .idle, queue := [] } }
  | e :: rest, s =>
    if drawSync e.cmd then { s with engine := { mode := .waiting e, queue := rest } }
    else if presentsNothing e.cmd then engineLoad rest (s.answerDraw e .ok (endState e.cmd (allProcessed e.cmd)))
    else { s with engine := { mode := .running e .none, queue := rest } }

/-- A WAITING command begins (R144). -/
def State.engineStart (s : State) : State :=
  match s.engine.mode with
  | .waiting e =>
    if presentsNothing e.cmd then engineLoad s.engine.queue (s.answerDraw e .ok (endState e.cmd (allProcessed e.cmd)))
    else { s with engine := { s.engine with mode := .running e .none } }
  | .idle => s
  | .running _ _ => s
  | .stopping _ _ _ => s

/-- A draw command is accepted: it joins the Draw Queue, and an IDLE engine takes it at once (R142). -/
def State.acceptDraw (s : State) (e : DrawEntry) : State :=
  match s.engine.mode with
  | .idle => engineLoad (s.engine.queue ++ [e]) s
  | .waiting _ | .running _ _ | .stopping _ _ _ => { s with engine := { s.engine with queue := s.engine.queue ++ [e] } }

/-- A draw command taken from the Command Queue is checked, and accepted or answered BAD_FIELD (R142, R145). -/
def State.takeDraw (c : Command) (e : Entry) (s : State) : State :=
  match readDraw c e.payload with
  | none => s.answer e .badField []
  | some d => s.acceptDraw { tag := e.tag, cmd := d }

/-- Commands that have not begun are answered ABORTED with zero progress, oldest first (R155). -/
def State.abortAll (s : State) (entries : List DrawEntry) : State :=
  entries.foldl (fun s e => s.answerDraw e .aborted (zeroState e.cmd)) s

/-- The command and the progress whose access the engine has at the arbiter. -/
def engineCurrent : EngineMode → Option (DrawEntry × Progress)
  | .idle => none
  | .waiting _ => none
  | .running e p => some (e, p)
  | .stopping e p _ => some (e, p)

/-- The position of the engine's access. -/
def State.enginePosition (s : State) : Option (Nat × Nat) :=
  (engineCurrent s.engine.mode).map fun c => accessPosition c.1.cmd c.2

/-- The engine's access is served at the surface: a write access, or the write of a read-then-write (R132, R146). -/
def State.engineWrites (s : State) : State :=
  match engineCurrent s.engine.mode with
  | none => s
  | some (e, p) =>
    let xy := accessPosition e.cmd p
    match accessWrite e.cmd p (s.pixel xy.1 xy.2) with
    | none => s
    | some v => s.setPixel xy.1 xy.2 v

/-- The engine goes on after its access: to the command's next access, or to its end (R148, R154), or to the answers of
an abort once the pixel in progress has been served (R155). `old` is the index the pixel held. A stopped COPY whose source
read has been served still presents its destination access, as R155 and Table 9-7 have it, although R140 gives an aborted
command no further access: DESIGN CHOICE (log entry 32). -/
def State.engineAdvances (s : State) (old : Byte) : State :=
  match s.engine.mode with
  | .idle => s
  | .waiting _ => s
  | .running e p =>
    let p' := progressAfter e.cmd p old
    if hasEnded e.cmd p' then engineLoad s.engine.queue (s.answerDraw e .ok (endState e.cmd p'))
    else { s with engine := { s.engine with mode := .running e p' } }
  | .stopping e p aborted =>
    let p' := progressAfter e.cmd p old
    if p'.source.isNone then
      engineLoad s.engine.queue ((s.answerDraw e .aborted (endState e.cmd p')).abortAll aborted)
    else { s with engine := { s.engine with mode := .stopping e p' aborted } }

/-- The access of the engine is served, and the engine goes on. -/
def State.engineServed (s : State) : State :=
  match s.enginePosition with
  | none => s
  | some (x, y) => (s.engineWrites.served).engineAdvances (s.pixel x y)

/-- The fault of the engine's access, if it lies outside the surface. -/
def State.engineFault (s : State) : Option Fault := s.enginePosition.bind fun xy => surfaceFault xy.1 xy.2

/-- Whether a running command's pixel is in progress: a COPY's source read has been served, or the access at the
arbiter is being served (R155). -/
def State.pixelInProgress (s : State) (p : Progress) : Bool := p.source.isSome || s.heldClient == some .engine

/-- The engine stops: a command that waits or has no pixel in progress is answered at once, and the pixel in progress of
a running one is still to be served, a COPY's destination access after its source read among it (R155, against R140; DESIGN
CHOICE, log entry 32). -/
def State.engineAborted (s : State) : State :=
  match s.engine.mode with
  | .idle => ({ s with engine := { mode := .idle, queue := [] } }).abortAll s.engine.queue
  | .waiting e =>
    (({ s with engine := { mode := .idle, queue := [] } }).answerDraw e .aborted (zeroState e.cmd)).abortAll s.engine.queue
  | .running e p =>
    if s.pixelInProgress p then { s with engine := { mode := .stopping e p s.engine.queue, queue := [] } }
    else (({ s with engine := { mode := .idle, queue := [] } }).answerDraw e .aborted (endState e.cmd p)).abortAll
      s.engine.queue
  | .stopping e p aborted => { s with engine := { mode := .stopping e p (aborted ++ s.engine.queue), queue := [] } }

/-- DRAW ABORT acts on the engine and the Draw Queue, and the access that is being served keeps the arbiter until it
ends (R133, R155). -/
def State.drawAborted (s : State) (inService : Option Client) : State := (s.hold inService).engineAborted

/-! ### The happenings -/

/-- FILL is taken: checked, and accepted into the Draw Queue (R142, R145, R148). -/
def execFill (s : State) : Host.Outcome State Fault Refusal := s.taking (Entry.runs .fill) (State.takeDraw .fill)

/-- COPY is taken (R142, R145, R149). -/
def execCopy (s : State) : Host.Outcome State Fault Refusal := s.taking (Entry.runs .copy) (State.takeDraw .copy)

/-- LINE is taken (R142, R145, R150). -/
def execLine (s : State) : Host.Outcome State Fault Refusal := s.taking (Entry.runs .line) (State.takeDraw .line)

/-- SEEK is taken (R142, R145, R152). -/
def execSeek (s : State) : Host.Outcome State Fault Refusal := s.taking (Entry.runs .seek) (State.takeDraw .seek)

/-- PLOT is taken (R142, R145, R151). -/
def execPlot (s : State) : Host.Outcome State Fault Refusal := s.taking (Entry.runs .plot) (State.takeDraw .plot)

/-- PROBE is taken (R142, R145, R153). -/
def execProbe (s : State) : Host.Outcome State Fault Refusal := s.taking (Entry.runs .probe) (State.takeDraw .probe)

/-- An engine access is served, while no higher client waits or where it was already being served (R133, R146). -/
def execEngineAccessServed (s : State) : Host.Outcome State Fault Refusal :=
  s.accessing (s.mayServe .engine) s.engineFault State.engineServed

/-- DRAW ABORT's frame is received, with a passing check and length 0 (R155, R164). -/
def execDrawAbort (inService : Option Client) (s : State) : Host.Outcome State Fault Refusal :=
  s.happening true fun s => s.drawAborted inService

end Sys2Proof.Machine
end

