-- ==== Sys2Proof/Machine/Lines.lean ====
section
/-! DEFINITION. The Line Assembler (Chapter 5), the Output Stage, the Collision Unit (Chapter 6) and the Pick Unit
(Chapter 7): the fetch, the resolution of a column, and the happenings FETCH_ACCESS_SERVED, COLUMN_RESOLVED and
PICKTRIG_EDGE. -/

namespace Sys2Proof.Machine

/-! ### The fetch -/

/-- The own grant whose row is in progress: the one of the last row of the buffer (R87). -/
def State.fetchGrant (s : State) : Option OwnGrant := s.claim.ownGrants[s.lines.buffer.length - 1]?

/-- The row in progress. -/
def State.fetchRow (s : State) : Option Row := s.lines.buffer.getLast?

/-- The surface position of entry `c` of a copy's row on line `L` (R88). -/
def artPosition (copy : Candidate) (L c : Nat) : Nat × Nat :=
  (if copy.mirror then copy.sourceX + copy.width - 1 - c else copy.sourceX + c, copy.sourceY + copy.row L)

/-- The position of the fetch's access. -/
def State.fetchPosition (s : State) : Option (Nat × Nat) :=
  match s.fetchGrant, s.fetchRow with
  | some g, some r => some (artPosition g.copy s.link.lineCounter r.pixels.length)
  | _, _ => none

/-- An art pixel: index 0 is transparent (R88). -/
def artEntry (v : Byte) : Option Byte := if v = 0#8 then none else some v

/-- The Tint Pool entry of a copy's row on line `L` (R89). -/
def tintEntry (copy : Candidate) (L : Nat) : Option Nat :=
  copy.tint.map fun t => t.start + min (copy.row L) (t.length - 1)

/-- Every opaque entry of the row takes the tint colour (R89). -/
def tintPixels (colour : Option Byte) (pixels : List (Option Byte)) : List (Option Byte) :=
  match colour with
  | none => pixels
  | some v => pixels.map fun p => p.map fun _ => v

/-- The colour the tint pool gives a copy's row on line `L`, where it is tinted. -/
def State.tintColour (s : State) (copy : Candidate) (L : Nat) : Option Byte :=
  (tintEntry copy L).map fun i => s.tints.getD i 0#8

/-- The row after one more art pixel: after the last, tint is applied and the row is complete (R87 … R89). -/
def Row.add (colour : Option Byte) (v : Byte) (r : Row) : Row :=
  let pixels := r.pixels ++ [artEntry v]
  if r.width ≤ pixels.length then { r with pixels := tintPixels colour pixels, complete := true }
  else { r with pixels := pixels }

/-- After a row is complete, the next own grant's row begins, or the fetch has ended (R87). -/
def State.nextRow (s : State) : State :=
  match s.claim.ownGrants[s.lines.buffer.length]? with
  | some g => { s with lines := { s.lines with buffer := s.lines.buffer ++ [startRow g] } }
  | none => { s with lines := { s.lines with fetching := false } }

/-- A fetch read returns the index of its pixel, and the next access is presented with it (R88, R90, R133; log entry 30). -/
def State.fetchServed (s : State) : State :=
  match s.fetchGrant, s.fetchRow, s.fetchPosition with
  | some g, some r, some (x, y) =>
    let r' := r.add (s.tintColour g.copy s.link.lineCounter) (s.pixel x y)
    let s1 := { s with lines := { s.lines with buffer := s.lines.buffer.dropLast ++ [r'] } }
    (if r'.complete then s1.nextRow else s1).served
  | _, _, _ => s

/-- The fault of a fetch access: a position outside the surface, or a tint entry outside the pool (R131, R89). -/
def State.fetchFault (s : State) : Option Fault :=
  match s.fetchGrant, s.fetchPosition with
  | some g, some (x, y) =>
    match surfaceFault x y, tintEntry g.copy s.link.lineCounter with
    | some f, _ => some f
    | none, some i => if i < tintCount then none else some (.tintOutside i)
    | none, none => none
  | _, _ => none

/-- FETCH_ACCESS_SERVED (R88, R89, R133). -/
def execFetchAccessServed (s : State) : Host.Outcome State Fault Refusal :=
  s.accessing (s.mayServe .fetch) s.fetchFault State.fetchServed

/-! ### The own contribution -/

/-- The entry of a row at screen column `x`: `none` where the row is not complete, does not cover the column, or is
transparent there (R92). -/
def Row.entryAt (r : Row) (x : Nat) : Option Byte :=
  if r.complete && decide (r.first ≤ (x : Int)) && decide ((x : Int) < r.first + r.width) then
    r.pixels.getD ((x : Int) - r.first).toNat none
  else none

/-- Whether a row is opaque at a column. -/
def Row.opaqueAt (r : Row) (x : Nat) : Bool := (r.entryAt x).isSome

/-- The row of the own contribution: the opaque row that is no join row with the lowest slot, in MEMBER (R92). -/
def State.contribution (s : State) (x : Nat) : Option Row :=
  if s.isMember then s.lines.buffer.find? fun r => !r.join && r.opaqueAt x else none

/-- The word the station drives in the winner phase of column `x` (R92, R94). -/
def State.contributionWord (s : State) (x : Nat) : Option Lines :=
  (s.contribution x).map fun r => winnerWord r.slot ((r.entryAt x).getD 0#8) r.watched

/-- The winner phase as it has settled (R94). -/
def State.settledColumn (s : State) (x : Nat) (rivals : List Lines) (held : Carried) : Contest :=
  Contest.settle held slotLines { own := s.contributionWord x, rivals := rivals }

/-- The grant list entry of a slot (R95). -/
def State.grantOf (s : State) (slot : Nat) : Option Grant := s.claim.grants.find? fun g => g.slot == slot

/-- The join colours the station drives for a winning slot at column `x`, as the wired-AND of their complements (R93). -/
def State.joinDrive (s : State) (x slot : Nat) : Lines :=
  match s.grantOf slot with
  | none => released
  | some g =>
    if s.isMember then
      (s.lines.buffer.filter fun r => r.join && r.cls == g.cls).foldl
        (fun w r => match r.entryAt x with | some c => w &&& joinWord c | none => w) released
    else released

/-! ### The reading and the report -/

/-- The reading of a column from the winner phase and, where a winner is present, the join phase (R94, R95). -/
def readColumn (word join : Lines) : Reading :=
  if isBlank word then { slot := none, colour := 0#8, watched := false, composed := 0#8 }
  else { slot := some (winnerSlot word), colour := lowByte word, watched := word.getLsbD 12,
         composed := lowByte word ||| ~~~(lowByte join) }

/-- The winner as named from the grant list (R95, R126). -/
def State.nameWinner (s : State) (slot : Option Nat) : Winner :=
  match slot with
  | none => .backdrop
  | some k =>
    match s.grantOf k with
    | some g => .named g.station g.object g.cls
    | none => .unknown

/-- The station's own rows opaque at `x`, in slot order; none at a station that is not MEMBER (R97). -/
def State.ownRows (s : State) (x : Nat) : List OwnPixel :=
  if s.isMember then
    (s.lines.buffer.filter fun r => r.opaqueAt x).map fun r =>
      { slot := r.slot, object := r.object, join := r.join, watched := r.watched }
  else []

/-- The column report of column `x` of the line in hand (R97). -/
def State.columnReport (s : State) (x : Nat) (reading : Reading) : ColumnReport :=
  { line := s.link.lineCounter, x := x, reading := reading, winner := s.nameWinner reading.slot, own := s.ownRows x }

/-! ### The Collision Unit -/

/-- Whether two records carry the same pair key (R109). -/
def samePair (a b : CollisionRecord) : Bool :=
  a.frame == b.frame && a.own == b.own && a.station == b.station && a.object == b.object

/-- The newest record of a full log has its more flag set (R111). -/
def markMore (log : List CollisionRecord) : List CollisionRecord :=
  match log.getLast? with
  | none => log
  | some r => log.dropLast ++ [{ r with more := true }]

/-- A collision found is offered to the log (R110, R111). -/
def State.offerCollision (s : State) (c : CollisionRecord) : State :=
  if s.collisions.any (samePair c) then s
  else if logCapacity ≤ s.collisions.length then ({ s with collisions := markMore s.collisions }).raise .logFull
  else ({ s with collisions := s.collisions ++ [c] }).raise .collision

/-- Whether an own row of the report collides under a winning slot (R106, R107). -/
def collides (slot : Option Nat) (p : OwnPixel) : Bool := !p.join && p.watched && some p.slot != slot

/-- The collisions of a column, lowest slot first (R106, R108). -/
def State.collisionsFound (s : State) (rep : ColumnReport) : List CollisionRecord :=
  match rep.winner with
  | .backdrop => []
  | .unknown => []
  | .named station object _ =>
    if s.isMember && rep.reading.watched then
      (rep.own.filter (collides rep.reading.slot)).map fun p =>
        { frame := s.link.frameNumber, line := rep.line, x := rep.x, own := p.object, station := station,
          object := object, more := false }
    else []

/-- The Collision Unit examines a column report (R106 … R111). All collisions of a report are offered in one happening, so that
a READ COLLISIONS comes before or after all of them (R115); DESIGN CHOICE (log entry 31). -/
def State.examineCollisions (s : State) (rep : ColumnReport) : State :=
  (s.collisionsFound rep).foldl State.offerCollision s

/-! ### The Pick Unit -/

/-- An own row of a column report as a pick record names it (R126). -/
def OwnPixel.picked (p : OwnPixel) : PickOwn := { slot := p.slot, object := p.object, join := p.join }

/-- A pick record made from a column report (R126). -/
def State.pickRecord (s : State) (tag : Option Byte) (rep : ColumnReport) : PickRecord :=
  { tag := tag, frame := s.link.frameNumber, x := rep.x, line := rep.line, winner := rep.winner,
    composed := rep.reading.composed, own := rep.own.map OwnPixel.picked }

/-- A record is offered to the Pick Queue (R127). -/
def State.offerPick (s : State) (r : PickRecord) : State :=
  if s.picks.queue.length < pickCapacity then
    ({ s with picks := { s.picks with queue := s.picks.queue ++ [r] } }).raise .pick
  else s.raise .pickLost

/-- Whether a pending point is at the report's position (R121). -/
def pointAt (rep : ColumnReport) (p : PickPoint) : Bool := p.x == rep.x && p.y == rep.line

/-- The pending points at the report's position leave the list, and each makes a record (R121, R127). -/
def State.resolvePoints (s : State) (rep : ColumnReport) : State :=
  let here := s.picks.points.filter (pointAt rep)
  let s1 := { s with picks := { s.picks with points := s.picks.points.filter fun p => !pointAt rep p } }
  here.foldl (fun s p => s.offerPick (s.pickRecord (some p.tag) rep)) s1

/-- A trigger pick is resolved at the report: a waiting edge of this pixel time, or the trigger point at column 0; the
two give one record (R123, R124, R127). -/
def State.resolveTrigger (s : State) (rep : ColumnReport) : State :=
  if s.picks.edgeWaiting || (s.picks.trigger && rep.x == 0) then
    let s1 := { s with picks := { s.picks with
      trigger := s.picks.trigger && rep.x != 0, edgeWaiting := false, edgeTaken := true } }
    s1.offerPick (s1.pickRecord none rep)
  else { s with picks := { s.picks with edgeTaken := false } }

/-- The Pick Unit takes a column report (R121 … R127). All records that a report makes are offered in one happening, so that a
READ PICKS comes before or after all of them (R129); DESIGN CHOICE (log entry 31). -/
def State.examinePicks (s : State) (rep : ColumnReport) : State := (s.resolvePoints rep).resolveTrigger rep

/-! ### A column -/

/-- The Output Stage emits the palette entry of the composed colour (R103). -/
def State.emit (s : State) (colour : Byte) : State :=
  { s with output := { s.output with rgb := s.output.palette.getD colour.toNat .black } }

/-- The column report is handed on to the Output Stage, the Collision Unit and the Pick Unit (R97). -/
def State.handOn (s : State) (rep : ColumnReport) : State :=
  let s1 := { s with lines := { s.lines with report := some rep, column := some (rep.x + 1) } }
  ((s1.emit rep.reading.composed).examineCollisions rep).examinePicks rep

/-- Column `x` is resolved: the winner phase, the join phase, and the report (R92 … R97). -/
def State.resolveColumn (s : State) (x : Nat) (rivals : List Lines) (held : Carried) (join : Lines) : State :=
  let word := (s.settledColumn x rivals held).bus held.reading
  let ownJoin := if isBlank word then released else s.joinDrive x (winnerSlot word)
  let s1 := { s with link := { s.link with
    ldata := (s.contributionWord x).getD released, ldataJoin := ownJoin } }
  s1.handOn (s1.columnReport x (readColumn word (join &&& ownJoin)))

/-- Whether the station resolves a column next: it is synced and holds the active part, the claim window has closed and
the fetch has ended, as they always have before the active part (R27, R95, R98), and the line has not run past its own end
(R29). -/
def State.columnDue (s : State) : Bool :=
  s.link.synced && s.lineHolds && s.claim.window.isNone && !s.lines.fetching
    && s.lines.column.any fun x => decide (x < s.geometry.activePixels)

/-- The happening of the next column of the active part. -/
def State.columnResolved (s : State) (rivals : List Lines) (held : Carried) (join : Lines) : State :=
  match s.lines.column with
  | none => s
  | some x => (s.reach (s.geometry.blank + x)).resolveColumn x rivals held join

/-- COLUMN_RESOLVED: the next column of the active part is resolved on the link (R92 … R97, R106, R121). -/
def execColumnResolved (rivals : List Lines) (held : Carried) (join : Lines) (s : State) : Host.Outcome State Fault Refusal :=
  s.happening s.columnDue fun s => s.columnResolved rivals held join

/-! ### PICKTRIG -/

/-- The column whose pixel time it is, where the station is in the active part of an active line (R27, R123). -/
def State.columnNow (s : State) : Option Nat :=
  if s.lines.column.isSome && s.claim.window.isNone && !s.lines.fetching && decide (s.geometry.blank ≤ s.link.pixelTime)
      && decide (s.link.pixelTime < s.geometry.linePixels) then
    some (s.link.pixelTime - s.geometry.blank)
  else none

/-- An edge in the pixel time of a column that the station resolves: a trigger pick of that column, made from its
report where the report has been handed on, and waiting for it otherwise; folded where a trigger pick waits or was made
at this column (R123, R124; log entry 13). Where columns are overdue (log entry 4), so that the column due next lies before the
one whose pixel time it is, the edge is resolved at the column due next: DESIGN CHOICE (log entry 13). -/
def State.edgeInColumn (s : State) (x : Nat) : State :=
  match s.lines.report with
  | some rep =>
    if s.lines.column == some (x + 1) && rep.x == x then
      if s.picks.edgeTaken then s
      else
        let s1 := { s with picks := { s.picks with edgeTaken := true } }
        s1.offerPick (s1.pickRecord none rep)
    else if s.picks.trigger then s
    else { s with picks := { s.picks with edgeWaiting := true } }
  | none => if s.picks.trigger then s else { s with picks := { s.picks with edgeWaiting := true } }

/-- A falling edge of PICKTRIG is taken (R123 … R125). -/
def State.pickEdge (s : State) : State :=
  match s.columnNow with
  | some x => s.edgeInColumn x
  | none => { s with picks := { s.picks with trigger := true } }

/-- PICKTRIG_EDGE: ignored while unsynced, else placed by its pixel time (R123). -/
def execPicktrigEdge (s : State) : Host.Outcome State Fault Refusal := s.happening s.link.synced State.pickEdge

end Sys2Proof.Machine
end

