-- ==== Sys2Proof/Machine/Marks.lean ====
section
/-! DEFINITION. The Link Timing Unit (Chapter 2): leading edges, marks taken, the line timer, the silence count, the
frame word, and what the other blocks do at a mark. -/

namespace Sys2Proof.Machine

/-! ### The leading edge -/

/-- The part of the line not yet reached does not take place: an open claim window is cut, the fetch stops, the
active part and the announce window end (R29, R46, R77, R91, R98). -/
def State.endLine (s : State) : State :=
  let s1 := s.cutWindow
  { s1 with
    lines := { s1.lines with fetching := false, column := none }
    member := { s1.member with announce := none }
    picks := { s1.picks with
      trigger := s1.picks.trigger || s1.picks.edgeWaiting, edgeWaiting := false, edgeTaken := false } }

/-- A mark the station asserts goes on to its end, and LMARK is released: no new leading edge comes before that (R24). -/
def State.releaseMark (s : State) : State :=
  match s.link.lmark with
  | none => s
  | some k =>
    let s1 := s.reach (markLength k)
    { s1 with link := { s1.link with lmark := none } }

/-- A new leading edge starts the next line: positions count from it, and the HSYNC pulse begins (R23, R29, R104). -/
def State.startLine (s : State) : State :=
  let s1 := s.endLine
  { s1 with
    link := { s1.link with
      pixelTime := 0, edgeSeen := true, frameDriven := false, ldata := released, ldataJoin := released }
    output := { s1.output with rgb := .black, hsync := true } }

/-- A leading edge on LMARK. An edge before the decision point of the one before it is part of the same assertion
(R24; log entry 5). -/
def State.leadingEdge (s : State) : State := if s.link.edgeSeen then s else s.releaseMark.startLine

/-! ### What a mark brings -/

/-- A mark taken sets the silence count to 0 and restarts a running line timer, both counting from the mark's
leading edge (R30, R32). -/
def State.restartClocks (s : State) : State :=
  { s with link := { s.link with
      edgeSeen := false, silenceCount := 0, silencePixels := s.link.pixelTime,
      lineTimer := if s.member.own.drives then some s.link.pixelTime else none } }

/-- One entry of the Pending Update Queue is applied (R12). -/
def applyUpdate (objects : List ObjectRecord) : PendingEntry → List ObjectRecord
  | .whole n r => objects.set n r
  | .move n x y =>
    let r := objects.getD n .cleared
    if r.state = .empty then objects else objects.set n { r with screenX := x, screenY := y }

/-- Every entry is applied, oldest first, and the queue is emptied (R12). -/
def State.applyUpdates (s : State) : State :=
  { s with table := { objects := s.table.updates.foldl applyUpdate s.table.objects, updates := [] } }

/-- The states in which the window wait count is kept (R55). -/
def OwnState.waits : OwnState → Bool
  | .listen | .founding | .joining | .member => true
  | .conflict | .refused | .detached => false

/-- The changes of the own state at a mark other than the window wait's: a detach pending takes effect (R64), and at a
frame mark an admitted station becomes MEMBER (R58). -/
def State.consumeFlags (s : State) (kind : MarkKind) : State :=
  if s.member.detachPending && s.isMember then s.changeState .detached
  else if kind = .frame && s.member.admitted && (s.member.own == .founding || s.member.own == .joining) then
    s.changeState .member
  else s

/-- The membership at a frame mark: the window wait count goes up where the station was synced before the mark, and
its third mark sends the station to REFUSED before anything else (R55, R58, R64). -/
def State.frameMembership (s : State) (wasSynced : Bool) : State :=
  if wasSynced && s.member.own.waits then
    if 3 ≤ s.member.windowWait + 1 then s.changeState .refused
    else ({ s with member := { s.member with windowWait := s.member.windowWait + 1 } }).consumeFlags .frame
  else s.consumeFlags .frame

/-- Where a line mark brings the line counter of a synced station (R33). -/
def State.nextLine (s : State) : Nat :=
  if s.geometry.totalLines ≤ s.link.lineCounter + 1 then s.link.lineCounter else s.link.lineCounter + 1

/-- The announce window as the mark of line A opens it (R28, R33): it counts where the station is in LISTEN as it begins with
its frame word, so it is marked by the own state until then (R52; log entry 29). -/
def AnnounceWindow.opened (listening : Bool) : AnnounceWindow :=
  { wordRead := false, listening := listening, place := 0, heard := [] }

/-- The line that a line mark opens at a synced station: SLIP and a line treated as blank with the counter at T − 1, an
active line below A, the announce window on line A, a blank line above it (R28, R33). -/
def State.advanceLine (s : State) : State :=
  if s.geometry.totalLines ≤ s.link.lineCounter + 1 then s.raise .slip
  else
    let n := s.link.lineCounter + 1
    let s1 := { s with link := { s.link with lineCounter := n } }
    if n < s.geometry.activeLines then s1.openActiveLine n
    else if n = s.geometry.activeLines then
      { s1 with member := { s1.member with announce := some (.opened (s.member.own == .listen)) } }
    else s1

/-- A line mark is taken (R33). -/
def State.takeLineMark (s : State) : State :=
  let s1 := s.restartClocks.consumeFlags .line
  if s.link.synced then s1.advanceLine else s1

/-- The counter, frame number and synced flag at a frame mark, with SLIP at an unexpected count (R34, R38). -/
def State.frameCount (s : State) : State :=
  let s1 := if s.link.synced && s.link.lineCounter + 1 != s.geometry.totalLines then s.raise .slip else s
  { s1 with link := { s1.link with lineCounter := 0, frameNumber := s1.link.frameNumber + 1, synced := true } }

/-- A frame mark is taken: the counters, the own state, the pending updates, the shortfall records, a WAITING draw
command, and line 0 (R12, R18, R34, R55, R58, R83, R144). -/
def State.takeFrameMark (s : State) : State :=
  let s1 := s.restartClocks.frameCount
  let s2 := (s1.frameMembership s.link.synced).applyUpdates.turnOver.engineStart
  s2.openActiveLine 0

/-- The kind of the mark: a frame mark wherever anything holds LMARK past the decision point, this station's own
assertion included, though it may have ended since (R24, R31). -/
def State.markKind (s : State) (seen : MarkKind) : MarkKind :=
  if s.link.lmark = some .frame ∨ s.link.frameDriven = true then .frame else seen

/-- A mark is taken at its decision point; its leading edge, where it was not a happening of its own, comes first
(R24; log entry 5). -/
def State.takeMark (s : State) (seen : MarkKind) : State :=
  let s1 := s.leadingEdge.reach decisionPoint
  match s1.markKind seen with
  | .line => s1.takeLineMark
  | .frame => s1.takeFrameMark

/-! ### Driving a mark -/

/-- The station asserts LMARK, and the leading edge appears where none was seen (R24, R30, R54). -/
def State.driveMark (s : State) (kind : MarkKind) : State :=
  let s1 := s.leadingEdge
  { s1 with link := { s1.link with lmark := some kind, frameDriven := kind == .frame } }

/-- Whether the running line timer may run out: no new leading edge has appeared, or one has at this very pixel time, at
which the timer has reached the line length, and the station drives the mark with the others (R30, R31). -/
def State.timerDue (s : State) : Bool :=
  s.link.lineTimer.isSome
    && (!s.link.edgeSeen || (s.link.pixelTime == 0 && s.link.lineTimer == some s.geometry.linePixels))

/-- The line timer runs out: the station drives a frame mark with the counter at T − 1 and a line mark with any other
value (R30). -/
def State.timerRunsOut (s : State) : State :=
  match s.link.lineTimer with
  | none => s
  | some t =>
    let s1 := s.passTime (s.geometry.linePixels - t)
    s1.driveMark (if s1.link.lineCounter + 1 = s1.geometry.totalLines then .frame else .line)

/-- The station founds the link: FOUNDING, a frame mark driven at once, the line timer from its leading edge (R54). -/
def State.found (s : State) : State :=
  let s1 := (s.changeState .founding).driveMark .frame
  { s1 with link := { s1.link with lineTimer := some s1.link.pixelTime } }

/-- A synced station becomes unsynced, and what it held of a line is over (R32, R35; log entry 19). -/
def State.loseSync (s : State) : State :=
  if s.link.synced then
    let s1 := s.endLine
    { s1 with link := { s1.link with synced := false } }
  else s

/-- What a silence count that stands at 2 × T brings: loss of sync, and at a station in LISTEN the founding (R32, R54). -/
def State.atSilenceLimit (s : State) : State :=
  if 2 * s.geometry.totalLines ≤ s.link.silenceCount then
    if s.member.own = .listen then s.loseSync.found else s.loseSync
  else s

/-- The pixel times left until the silence count reaches 2 × T (R32). -/
def State.silenceLeft (s : State) : Nat :=
  (2 * s.geometry.totalLines - s.link.silenceCount) * s.geometry.linePixels - s.link.silencePixels

/-- Whether the silence count can reach its limit: the own timer is not running, and no decision point comes first,
which would set the count to 0 (R32, R54). DESIGN CHOICE (log entry 28): a count that reaches its limit exactly at the
decision point of a mark goes to 0 by the mark, since R54 speaks only of before and after it. -/
def State.silenceDue (s : State) : Bool :=
  s.link.lineTimer.isNone && (!s.link.edgeSeen || decide (s.link.pixelTime + s.silenceLeft < decisionPoint))

/-- The silence count reaches its limit (R32, R54). -/
def State.silenceReached (s : State) : State :=
  let s1 := s.passTime s.silenceLeft
  ({ s1 with link := { s1.link with silenceCount := 2 * s1.geometry.totalLines } }).atSilenceLimit

/-! ### The frame word -/

/-- The pixel time at which the frame word ends (R28). -/
def frameWordEnd : Nat := 11

/-- The frame word is read: every synced station that holds the window adopts it, and a driving station whose number
differs raises SLIP (R36). -/
def State.readFrameWord (s : State) (w : AnnounceWindow) (others : Lines) : State :=
  let own := s.link.frameNumber
  let word := if s.member.own.drives then frameNumberWord own else released
  let read := lowByte (others &&& word)
  let s1 := s.drive word
  let s2 := if s.member.own.drives && read != own then s1.raise .slip else s1
  { s2 with
    link := { s2.link with frameNumber := read }
    member := { s2.member with announce := some { w with wordRead := true } } }

/-- The happening of the frame word, in a window the station holds. -/
def State.frameWordEnds (s : State) (others : Lines) : State :=
  match s.member.announce with
  | none => s
  | some w => if w.wordRead then s else (s.reach frameWordEnd).readFrameWord w others

/-! ### The happenings -/

/-- LMARK_LEADING_EDGE: a leading edge starts the next line (R29). -/
def execLmarkLeadingEdge (s : State) : Host.Outcome State Fault Refusal := s.happening true State.leadingEdge

/-- LINE_MARK: the assertion the others made has ended before the decision point (R24, R33). -/
def execLineMark (s : State) : Host.Outcome State Fault Refusal := s.happening true fun s => s.takeMark .line

/-- FRAME_MARK: the assertion is still present at the decision point (R24, R34). -/
def execFrameMark (s : State) : Host.Outcome State Fault Refusal := s.happening true fun s => s.takeMark .frame

/-- LINE_TIMER_RUNS_OUT: the running line timer reaches the line length, before any new leading edge or at the pixel time of
one (R30, R31). -/
def execLineTimerRunsOut (s : State) : Host.Outcome State Fault Refusal := s.happening s.timerDue State.timerRunsOut

/-- SILENCE_COUNT_LIMIT: the silence count reaches 2 × T, which it does only at a station whose own timer is not
running (R32). -/
def execSilenceCountLimit (s : State) : Host.Outcome State Fault Refusal :=
  s.happening s.silenceDue State.silenceReached

/-- FRAME_WORD: the frame word of the announce window held (R36), on a line that has not run past its own end (R29). -/
def execFrameWord (others : Lines) (s : State) : Host.Outcome State Fault Refusal :=
  s.happening (s.link.synced && s.lineHolds) fun s => s.frameWordEnds others

end Sys2Proof.Machine
end

