-- ==== Sys2Proof/Machine/Membership.lean ====
section
/-! DEFINITION. The Membership Unit (Chapter 3): announce places, the Member Table, the join decision, the agreement
test, and the happenings ANNOUNCE_PLACE, READ_MEMBERS, DETACH and REJOIN. -/

namespace Sys2Proof.Machine

/-! ### The Member Table -/

/-- The join flag of an announce (R44). -/
def announceJoin (w : Lines) : Bool := w.getLsbD 8
/-- The nonce of an announce (R44). -/
def announceNonce (w : Lines) : BitVec 7 := w.extractLsb' 9 7

/-- Whether a place is heard: its agreement code lines read anything other than FFh (R46). -/
def placeHeard (w : Lines) : Bool := lowByte w != 0xFF#8

/-- An entry at the end of a heard place (R49). -/
def MemberEntry.hear (frame : Byte) (w : Lines) (e : MemberEntry) : MemberEntry :=
  { present := true, code := lowByte w, joining := announceJoin w, nonce := announceNonce w, missed := 0,
    framePresent := if e.present then e.framePresent else frame }

/-- An entry at the end of a place not heard (R50). -/
def MemberEntry.miss (e : MemberEntry) : MemberEntry :=
  if !e.present then e
  else if e.missed < 3 then { e with missed := e.missed + 1 }
  else { e with present := false, missed := 0 }

/-- An entry at the end of its place, as the place was read (R49, R50). -/
def MemberEntry.take (frame : Byte) (w : Lines) (e : MemberEntry) : MemberEntry :=
  if placeHeard w then e.hear frame w else e.miss

/-- The Member Table takes place `n`; MEMBERS is raised where the entry becomes present or absent (R49, R50). -/
def State.takePlace (s : State) (n : Nat) (w : Lines) : State :=
  let old := s.member.members.getD n .absent
  let new := old.take s.link.frameNumber w
  let s1 := { s with member := { s.member with members := s.member.members.set n new } }
  if old.present != new.present then s1.raise .members else s1

/-! ### The end of a complete window -/

/-- Whether a present entry holds an agreement code other than the station's own. -/
def disagrees (code : Byte) (e : MemberEntry) : Bool := e.present && e.code != code

/-- The state the join decision selects (R53). -/
def State.joinDecision (s : State) (heard : List Nat) : OwnState :=
  if heard.contains s.stationNumber then .conflict
  else if s.member.members.any (disagrees s.geometry.code) then .refused
  else if heard.isEmpty then .refused
  else .joining

/-- A complete window whose frame word began and was read in the present stay in LISTEN counts toward the listen count; the second brings the join
decision (R52, R53). -/
def State.countListen (s : State) (heard : List Nat) : State :=
  if 2 ≤ s.member.listenCount + 1 then s.changeState (s.joinDecision heard)
  else { s with member := { s.member with listenCount := s.member.listenCount + 1 } }

/-- The agreement test of a member at the end of a complete window (R61). -/
def State.agreementTest (s : State) : State :=
  if (s.member.members.take s.stationNumber).any (disagrees s.geometry.code) then s.changeState .refused else s

/-- The window is complete (R46, R52, R53, R55, R61). -/
def State.completeWindow (s : State) (w : AnnounceWindow) : State :=
  let s1 := { s with member := { s.member with announce := none, windowWait := 0 } }
  if s.member.own == .listen && w.listening then s1.countListen w.heard
  else if s.isMember then s1.agreementTest
  else s1

/-! ### A place -/

/-- Whether the station drives place `n`: its own, in FOUNDING, JOINING or MEMBER (R44). -/
def State.drivesPlace (s : State) (n : Nat) : Bool := s.member.own.drives && n == s.stationNumber

/-- The announce the station drives, with a fresh nonce (R44, R45). -/
def State.announce (s : State) : Lines :=
  announceWord s.geometry.code (!s.isMember) (Config.nonceSample s.member.nonceDraws)

/-- The nonce counter is sampled: the next sample is another free value (R45; log entry 7). -/
def State.drawNonce (s : State) : State := { s with member := { s.member with nonceDraws := s.member.nonceDraws + 1 } }

/-- A driving station reads its own place back: clean, it is admitted in FOUNDING or JOINING; different, it goes to
CONFLICT (R47, R58). -/
def State.readBackPlace (s : State) (driven read : Lines) : State :=
  if read = driven then
    (if s.isMember then s else { s with member := { s.member with admitted := true } })
  else s.changeState .conflict

/-- The window goes on to its next place, or is complete after place 7 (R46). -/
def State.nextPlace (s : State) (w : AnnounceWindow) : State :=
  if w.place < 8 then { s with member := { s.member with announce := some w } } else s.completeWindow w

/-- The window after its place has been read. -/
def AnnounceWindow.after (w : AnnounceWindow) (heard : Bool) : AnnounceWindow :=
  { w with place := w.place + 1, heard := if heard then w.heard ++ [w.place] else w.heard }

/-- The end of the next place of the window: the place is read, the Member Table takes it, and a driving station
compares its own (R44 … R50). -/
def State.endPlace (s : State) (w : AnnounceWindow) (others : Lines) : State :=
  let drives := s.drivesPlace w.place
  let driven := if drives then s.announce else released
  let read := others &&& driven
  let s1 := ((if drives then s.drawNonce else s).drive driven).takePlace w.place read
  let s2 := if drives then s1.readBackPlace driven read else s1
  s2.nextPlace ((s2.member.announce.getD w).after (placeHeard read))

/-- The pixel time at which a place ends (R28). -/
def placeEnd (n : Nat) : Nat := 15 + 4 * n

/-- The happening of an announce place's end, in a window the station holds whose frame word has been read. -/
def State.announcePlaceEnds (s : State) (others : Lines) : State :=
  match s.member.announce with
  | none => s
  | some w => if w.wordRead then (s.reach (placeEnd w.place)).endPlace w others else s

/-- ANNOUNCE_PLACE (R44 … R53, R61), on a line that has not run past its own end (R29). -/
def execAnnouncePlace (others : Lines) (s : State) : Host.Outcome State Fault Refusal :=
  s.happening (s.link.synced && s.lineHolds) fun s => s.announcePlaceEnds others

/-! ### Commands -/

/-- The four bytes of an entry (Table 3-4). -/
def memberImage (e : MemberEntry) : List Byte :=
  [byte1 (e.present.toNat + 2 * e.joining.toNat + 4 * e.missed), e.code, byte1 e.nonce.toNat, e.framePresent]

/-- READ MEMBERS is carried out (R51). -/
def State.readMembers (e : Entry) (s : State) : State := s.answer e .ok (s.member.members.flatMap memberImage)

/-- READ_MEMBERS: the eight entries are returned (R51). -/
def execReadMembers (s : State) : Host.Outcome State Fault Refusal := s.taking (Entry.runs .readMembers) State.readMembers

/-- DETACH is carried out, by the state the station is in (R63). -/
def State.detach (e : Entry) (s : State) : State :=
  match s.member.own with
  | .member => ({ s with member := { s.member with detachPending := true } }).answer e .ok []
  | .detached => s.answer e .wrongState []
  | .listen | .founding | .joining | .conflict | .refused => (s.changeState .detached).answer e .ok []

/-- DETACH (R63, R64). -/
def execDetach (s : State) : Host.Outcome State Fault Refusal := s.taking (Entry.runs .detach) State.detach

/-- REJOIN is carried out, by the state the station is in; a station that enters LISTEN with its silence count at
2 × T has lost its sync and founds (R32, R54, R65). -/
def State.rejoin (e : Entry) (s : State) : State :=
  match s.member.own with
  | .detached | .conflict | .refused => ((s.changeState .listen).atSilenceLimit).answer e .ok []
  | .listen | .founding | .joining | .member => s.answer e .wrongState []

/-- REJOIN (R65). -/
def execRejoin (s : State) : Host.Outcome State Fault Refusal := s.taking (Entry.runs .rejoin) State.rejoin

end Sys2Proof.Machine
end

