-- ==== Sys2Proof/Machine/Objects.lean ====
section
/-! DEFINITION. The object commands and TINT WRITE (Chapter 1), and PALETTE WRITE (R101). -/

namespace Sys2Proof.Machine

/-- The timing byte of an OBJECT WRITE or OBJECT MOVE (Table 1-4). -/
def timingOf (e : Entry) : Nat := byteAt e.payload 0

/-- The object number of an OBJECT WRITE or OBJECT MOVE (Table 1-4). -/
def objectOf (e : Entry) : Nat := byteAt e.payload 1

/-- The record an OBJECT WRITE carries, where the timing byte is one the row allows, the number is in the table and the
image passes (R5, R6). -/
def writeRecord (timing : Nat) (e : Entry) : Option ObjectRecord :=
  if timingOf e = timing ∧ objectOf e < objectCount then readImage (e.payload.drop 2) else none

/-- The position an OBJECT MOVE carries, where its checks pass (R8). -/
def movePosition (timing : Nat) (e : Entry) : Option (Int × Nat) :=
  if timingOf e = timing ∧ objectOf e < objectCount ∧ positionFits (intAt e.payload 2) (wordAt e.payload 4) then
    some (intAt e.payload 2, wordAt e.payload 4)
  else none

/-- An OBJECT WRITE or OBJECT MOVE entry with timing 1: the at-frame rows take it. -/
def Entry.atFrame (c : Command) (e : Entry) : Bool := e.runs c && timingOf e == 1

/-- An OBJECT WRITE or OBJECT MOVE entry with any other timing byte: the now rows take it, and refuse a timing byte above 1
with BAD_FIELD (R6, R8; log entry 8). -/
def Entry.now (c : Command) (e : Entry) : Bool := e.runs c && timingOf e != 1

/-- A record is set in the Object Table. -/
def State.setObject (s : State) (n : Nat) (r : ObjectRecord) : State :=
  { s with table := { s.table with objects := s.table.objects.set n r } }

/-- An entry joins the Pending Update Queue, and the command is answered OK with the level; FULL with 16 entries in the
queue (R7, R9, R11). -/
def State.queueUpdate (s : State) (e : Entry) (u : PendingEntry) : State :=
  if s.table.updates.length < updateCapacity then
    ({ s with table := { s.table with updates := s.table.updates ++ [u] } }).answer e .ok
      [byte1 (s.table.updates.length + 1)]
  else s.answer e .full []

/-- OBJECT WRITE with timing 0 (R6). -/
def State.writeNow (e : Entry) (s : State) : State :=
  match writeRecord 0 e with
  | none => s.answer e .badField []
  | some r => (s.setObject (objectOf e) r).answer e .ok []

/-- OBJECT WRITE with timing 1 (R7). -/
def State.writeAtFrame (e : Entry) (s : State) : State :=
  match writeRecord 1 e with
  | none => s.answer e .badField []
  | some r => s.queueUpdate e (.whole (objectOf e) r)

/-- OBJECT MOVE with timing 0 (R8). -/
def State.moveNow (e : Entry) (s : State) : State :=
  match movePosition 0 e with
  | none => s.answer e .badField []
  | some (x, y) =>
    let r := s.table.objects.getD (objectOf e) .cleared
    if r.state = .empty then s.answer e .wrongState []
    else (s.setObject (objectOf e) { r with screenX := x, screenY := y }).answer e .ok []

/-- OBJECT MOVE with timing 1 (R9). -/
def State.moveAtFrame (e : Entry) (s : State) : State :=
  match movePosition 1 e with
  | none => s.answer e .badField []
  | some (x, y) => s.queueUpdate e (.move (objectOf e) x y)

/-- OBJECT READ (R10). -/
def State.readObject (e : Entry) (s : State) : State :=
  let n := byteAt e.payload 0
  if n < objectCount then s.answer e .ok (recordImage (s.table.objects.getD n .cleared)) else s.answer e .badField []

/-- FLUSH PENDING (R14). -/
def State.flushPending (e : Entry) (s : State) : State :=
  ({ s with table := { s.table with updates := [] } }).answer e .ok [byte1 s.table.updates.length]

/-- TINT WRITE (R17). -/
def State.writeTint (e : Entry) (s : State) : State :=
  let start := wordAt e.payload 0
  let colours := e.payload.drop 2
  if start + colours.length ≤ tintCount then ({ s with tints := setRun s.tints start colours }).answer e .ok []
  else s.answer e .badField []

/-- The palette entries a payload carries: three bytes each, red, green, blue (R101). -/
def paletteEntries : List Byte → List Rgb
  | r :: g :: b :: rest => { red := r, green := g, blue := b } :: paletteEntries rest
  | _ => []

/-- PALETTE WRITE (R101). -/
def State.writePalette (e : Entry) (s : State) : State :=
  let start := byteAt e.payload 0
  let levels := e.payload.drop 1
  let entries := paletteEntries levels
  if start + entries.length ≤ paletteCount ∧ levels.all (fun b => decide (b.toNat ≤ 63)) then
    ({ s with output := { s.output with palette := setRun s.output.palette start entries } }).answer e .ok []
  else s.answer e .badField []

/-- OBJECT_WRITE_NOW (R6). -/
def execObjectWriteNow (s : State) : Host.Outcome State Fault Refusal := s.taking (Entry.now .objectWrite) State.writeNow

/-- OBJECT_WRITE_AT_FRAME (R7). -/
def execObjectWriteAtFrame (s : State) : Host.Outcome State Fault Refusal :=
  s.taking (Entry.atFrame .objectWrite) State.writeAtFrame

/-- OBJECT_MOVE_NOW (R8). -/
def execObjectMoveNow (s : State) : Host.Outcome State Fault Refusal := s.taking (Entry.now .objectMove) State.moveNow

/-- OBJECT_MOVE_AT_FRAME (R9). -/
def execObjectMoveAtFrame (s : State) : Host.Outcome State Fault Refusal :=
  s.taking (Entry.atFrame .objectMove) State.moveAtFrame

/-- OBJECT_READ (R10). -/
def execObjectRead (s : State) : Host.Outcome State Fault Refusal := s.taking (Entry.runs .objectRead) State.readObject

/-- FLUSH_PENDING (R14). -/
def execFlushPending (s : State) : Host.Outcome State Fault Refusal := s.taking (Entry.runs .flushPending) State.flushPending

/-- TINT_WRITE (R17). -/
def execTintWrite (s : State) : Host.Outcome State Fault Refusal := s.taking (Entry.runs .tintWrite) State.writeTint

/-- PALETTE_WRITE (R101, R102). -/
def execPaletteWrite (s : State) : Host.Outcome State Fault Refusal := s.taking (Entry.runs .paletteWrite) State.writePalette

end Sys2Proof.Machine
end

