-- ==== Sys2Proof/Machine/Surface.lean ====
section
/-! DEFINITION. The port transfers of the Surface Store (Chapter 8): SURFACE WRITE, SURFACE READ and their accesses. -/

namespace Sys2Proof.Machine

/-- A transfer begins: it holds the port, and presents its first access (R135, R136, R137). -/
def State.beginTransfer (s : State) (t : Transfer) : State :=
  let s' := s.portPresents
  { s' with port := { s'.port with transfer := some t } }

/-- A run of pixels along one row stays on the surface (R135, R137). -/
def runFits (x y count : Nat) : Bool := decide (y < surfaceSize) && decide (x + count ≤ surfaceSize)

/-- SURFACE WRITE is checked, and begins its transfer (R135, R136). -/
def State.surfaceWrite (e : Entry) (s : State) : State :=
  let x := wordAt e.payload 0
  let y := wordAt e.payload 2
  let pixels := e.payload.drop 4
  if runFits x y pixels.length then s.beginTransfer (.write e.tag x y pixels 0) else s.answer e .badField []

/-- SURFACE READ is checked, and begins its transfer (R137). -/
def State.surfaceRead (e : Entry) (s : State) : State :=
  let x := wordAt e.payload 0
  let y := wordAt e.payload 2
  let count := byteAt e.payload 4
  if 1 ≤ count ∧ count ≤ 240 ∧ runFits x y count then s.beginTransfer (.read e.tag x y count []) else s.answer e .badField []

/-- The position of a transfer's access (R136, R137). -/
def Transfer.position : Transfer → Nat × Nat
  | .write _ x y _ next => (x + next, y)
  | .read _ x y _ got => (x + got.length, y)

/-- Whether the transfer in progress is a SURFACE WRITE. -/
def State.writesPort (s : State) : Bool :=
  match s.port.transfer with
  | some (.write _ _ _ _ _) => true
  | some (.read _ _ _ _ _) => false
  | none => false

/-- Whether the transfer in progress is a SURFACE READ. -/
def State.readsPort (s : State) : Bool :=
  match s.port.transfer with
  | some (.read _ _ _ _ _) => true
  | some (.write _ _ _ _ _) => false
  | none => false

/-- The fault of the port's access, if it lies outside the surface. -/
def State.portFault (s : State) : Option Fault :=
  s.port.transfer.bind fun t => surfaceFault t.position.1 t.position.2

/-- The port's write access is served at the surface (R136); a read access changes no pixel (R137). -/
def State.portWrites (s : State) : State :=
  match s.port.transfer with
  | some (.write _ x y pixels next) => s.setPixel (x + next) y (pixels.getD next 0#8)
  | some (.read _ _ _ _ _) => s
  | none => s

/-- The transfer record is released and the command answered OK (R136, R137). -/
def State.endTransfer (s : State) (tag code : Byte) (payload : List Byte) : State :=
  ({ s with port := { s.port with transfer := none } }).respond tag code .ok payload

/-- A port access is served: the next is presented, or the transfer is complete (R136, R137). -/
def State.portServed (s : State) : State :=
  match s.port.transfer with
  | none => s
  | some (.write tag x y pixels next) =>
    let s1 := s.portWrites.served
    if pixels.length ≤ next + 1 then s1.endTransfer tag 0x20#8 []
    else { s1 with port := { s1.port with transfer := some (.write tag x y pixels (next + 1)) } }
  | some (.read tag x y count got) =>
    let got' := got ++ [s.pixel (x + got.length) y]
    let s1 := s.served
    if count ≤ got'.length then s1.endTransfer tag 0x21#8 got'
    else { s1 with port := { s1.port with transfer := some (.read tag x y count got') } }

/-- SURFACE_WRITE (R135, R136). -/
def execSurfaceWrite (s : State) : Host.Outcome State Fault Refusal := s.taking (Entry.runs .surfaceWrite) State.surfaceWrite

/-- SURFACE_READ (R137). -/
def execSurfaceRead (s : State) : Host.Outcome State Fault Refusal := s.taking (Entry.runs .surfaceRead) State.surfaceRead

/-- PORT_WRITE_ACCESS_SERVED (R133, R136). -/
def execPortWriteAccessServed (s : State) : Host.Outcome State Fault Refusal :=
  s.accessing (s.writesPort && s.mayServe .port) s.portFault State.portServed

/-- PORT_READ_ACCESS_SERVED (R133, R137). -/
def execPortReadAccessServed (s : State) : Host.Outcome State Fault Refusal :=
  s.accessing (s.readsPort && s.mayServe .port) s.portFault State.portServed

end Sys2Proof.Machine
end

