-- ==== Sys2Proof/Machine/Reset.lean ====
section
/-! DEFINITION. The two resets: the reset pin (R170, R26) and RESTART (R165, Table 10-4). -/

namespace Sys2Proof.Machine

/-- The reset pin sets every block to its initial values; the nonce counter keeps what it held (R42, R45, R170). -/
def State.pinReset (s : State) (pin : Bool) (straps : Straps) : State :=
  State.initial pin straps s.member.nonceDraws s.pending

/-- The access being served when RESTART is received ends whole: a write leaves its pixel written (R139, R157). -/
def State.finishAccess (s : State) (inService : Option Client) : State :=
  match s.serving inService with
  | none => s
  | some .fetch => s
  | some .port => s.portWrites
  | some .engine => s.engineWrites

/-- The fault of the access being served when RESTART is received. -/
def State.finishFault (s : State) (inService : Option Client) : Option Fault :=
  match s.serving inService with
  | none => none
  | some .fetch => none
  | some .port => s.portFault
  | some .engine => s.engineFault

/-- RESTART resets each block and enters LISTEN; the straps, the Tint Pool, the palette, the surface and the nonce
counter are kept (Table 10-4), and so is what the link shows: the position in the line, an edge whose mark is still to be
taken with a frame assertion that stood past its decision point, and its HSYNC pulse (R39, R104; log entry 16). STATE is raised in the emptied Event Set (R165). -/
def State.restartBlocks (s : State) : State :=
  let fresh := State.initial s.resetPin s.straps s.member.nonceDraws s.pending
  { fresh with
    port := { fresh.port with events := Events.none.raise .state, pdo := s.port.pdo }
    tints := s.tints
    link := { fresh.link with
      pixelTime := s.link.pixelTime, edgeSeen := s.link.edgeSeen, frameDriven := s.link.frameStood }
    output := { fresh.output with palette := s.output.palette, hsync := s.output.hsync }
    surface := s.surface }

/-- RESTART acts (R165). -/
def State.restarted (s : State) (inService : Option Client) : State := (s.finishAccess inService).restartBlocks

/-- RESET_PIN_ASSERTED (R170). -/
def execResetPinAsserted (s : State) : Host.Outcome State Fault Refusal := .next (s.pinReset true s.straps)

/-- RESET_PIN_RELEASED: the straps are sampled, and the station starts in LISTEN (R26, R42, R103). -/
def execResetPinReleased (station : BitVec 3) (preset : BitVec 2) (video : Bool) (s : State) :
    Host.Outcome State Fault Refusal :=
  .next (s.pinReset false { station := station, preset := preset, video := video })

/-- RESTART's frame is received, with a passing check and length 0 (R164, R165). -/
def execRestart (inService : Option Client) (s : State) : Host.Outcome State Fault Refusal :=
  s.accessing true (s.finishFault inService) fun s => s.restarted inService

end Sys2Proof.Machine
end

