-- ==== Sys2Proof/Machine/PortFrames.lean ====
section
/-! DEFINITION. The Command Port's transactions (R158, R159, R163) and the entries answered without reaching a block
(R162, steps 1 … 3). -/

namespace Sys2Proof.Machine

/-- An entry is offered to the Command Queue: it joins the tail, or is dropped with OVERRUN (R159). -/
def State.offerEntry (s : State) (e : Entry) : State :=
  if s.port.commands.length < commandCapacity then { s with port := { s.port with commands := s.port.commands ++ [e] } }
  else s.raise .overrun

/-- What a transaction sends on PDO. -/
def State.send (s : State) (bytes : List Byte) : State := { s with port := { s.port with pdo := bytes } }

/-- A frame that has been received acts at once or is offered to the Command Queue (R159, R164); the access that is being
served as it arrives keeps the arbiter until it ends (R133). -/
def State.receiveFrame (s : State) (r : Received) (inService : Option Client) : State :=
  match r with
  | .abort => s.drawAborted inService
  | .restart => s.restarted inService
  | .entry e => (s.hold inService).offerEntry e

/-- The fault of an access that a RESTART frame lets end whole. -/
def State.receiveFault (s : State) (r : Received) (inService : Option Client) : Option Fault :=
  match r with
  | .abort => none
  | .restart => s.finishFault inService
  | .entry _ => none

/-- COMMAND_FRAME_RECEIVED: PDO carries 00h throughout (R158). A frame cut inside its first byte has no byte, and is a
bad-frame entry of code 00h and tag 0 (R158, R159). -/
def execCommandFrameReceived (bytes : List Byte) (inService : Option Client) (s : State) :
    Host.Outcome State Fault Refusal :=
  s.accessing true (s.receiveFault (receive bytes) inService)
    fun s => (s.send (List.replicate bytes.length 0#8)).receiveFrame (receive bytes) inService

/-- IGNORED_TRANSACTION: PDO carries 00h throughout; a kind byte of 01h or 02h is not ignored (R158). -/
def execIgnoredTransaction (kind : Byte) (count : Nat) (s : State) : Host.Outcome State Fault Refusal :=
  s.happening (kind != 1#8 && kind != 2#8) fun s => s.send (List.replicate (count + 1) 0#8)

/-- A read transaction of `count` bytes after its kind byte: the head response leaves the queue as the first of them
begins to be clocked; without one, the idle marker is sent (R163). -/
def State.readOut (s : State) (count : Nat) : State :=
  if count = 0 then s.send [0#8]
  else
    match s.port.responses with
    | [] => s.send (0#8 :: List.replicate count 0#8)
    | r :: rest =>
      ({ s with port := { s.port with responses := rest } }).send
        (0#8 :: (responseFrame r ++ List.replicate count 0#8).take count)

/-- READ_TRANSACTION (R163). -/
def execReadTransaction (count : Nat) (s : State) : Host.Outcome State Fault Refusal :=
  s.happening true fun s => s.readOut count

/-- An entry is answered with a status and no payload (R162, steps 1 … 3). -/
def State.answerBare (status : Status) (e : Entry) (s : State) : State := s.answer e status []

/-- BAD_FRAME_ENTRY_TAKEN (R162, step 1). -/
def execBadFrameEntryTaken (s : State) : Host.Outcome State Fault Refusal := s.taking Entry.bad (State.answerBare .badFrame)

/-- UNKNOWN_CODE_TAKEN (R162, step 2). -/
def execUnknownCodeTaken (s : State) : Host.Outcome State Fault Refusal :=
  s.taking Entry.isUnknown (State.answerBare .unknown)

/-- BAD_LENGTH_ENTRY_TAKEN (R162, step 3). -/
def execBadLengthEntryTaken (s : State) : Host.Outcome State Fault Refusal :=
  s.taking Entry.isBadLength (State.answerBare .badLength)

end Sys2Proof.Machine
end

