-- ==== Sys2Proof/Machine/Reads.lean ====
section
/-! DEFINITION. The commands that read the station's records: PICK AT and READ PICKS (Chapter 7), READ COLLISIONS (R113),
READ SHORTFALL (R84), READ STATUS (R169) and READ EVENTS (R167). -/

namespace Sys2Proof.Machine

/-- PICK AT (R120). -/
def State.pickAt (e : Entry) (s : State) : State :=
  let x := wordAt e.payload 0
  let y := wordAt e.payload 2
  if s.geometry.activePixels ≤ x ∨ s.geometry.activeLines ≤ y then s.answer e .badField []
  else if pointCapacity ≤ s.picks.points.length then s.answer e .full []
  else ({ s with picks := { s.picks with points := s.picks.points ++ [PickPoint.mk e.tag x y] } }).answer e .ok
    [byte1 (s.picks.points.length + 1)]

/-- The winner bytes of a pick record: kind, station, object, class (Table 7-2). -/
def winnerImage : Winner → List Byte
  | .named station object cls => [0#8, byte1 station, byte1 object, byte1 cls]
  | .backdrop => [1#8, 0#8, 0#8, 0xFF#8]
  | .unknown => [2#8, 0#8, 0#8, 0xFF#8]

/-- One own list entry of a pick record (Table 7-2). -/
def pickOwnImage (p : PickOwn) : List Byte := [byte1 p.slot, byte1 (p.object % 64 + 128 * p.join.toNat)]

/-- The image of a pick record (Table 7-2). -/
def pickImage (r : PickRecord) : List Byte :=
  [byte1 r.tag.isNone.toNat, r.tag.getD 0#8, r.frame] ++ byte2 r.x ++ byte2 r.line ++ winnerImage r.winner
    ++ [r.composed, byte1 r.own.length] ++ r.own.flatMap pickOwnImage

/-- READ PICKS (R128). -/
def State.readPicks (e : Entry) (s : State) : State :=
  match s.picks.queue with
  | [] => s.answer e .ok [0#8]
  | r :: rest => ({ s with picks := { s.picks with queue := rest } }).answer e .ok (1#8 :: pickImage r)

/-- The image of a collision record (Table 6-2). -/
def collisionImage (r : CollisionRecord) : List Byte :=
  [r.frame] ++ byte2 r.line ++ byte2 r.x ++ [byte1 r.own, byte1 (r.station % 8 + 128 * r.more.toNat), byte1 (r.object % 64)]

/-- READ COLLISIONS (R113, R114). -/
def State.readCollisions (e : Entry) (s : State) : State :=
  let n := byteAt e.payload 0
  if 1 ≤ n ∧ n ≤ 8 then
    let out := s.collisions.take n
    ({ s with collisions := s.collisions.drop n }).answer e .ok (byte1 out.length :: out.flatMap collisionImage)
  else s.answer e .badField []

/-- The image of a shortfall record (Table 4-5). -/
def shortfallImage (r : Shortfall) : List Byte :=
  [r.frame] ++ byte2 (r.firstLine.getD 0xFFFF) ++ [byte1 (r.firstObject.getD 0xFF), byte1 r.denied, byte1 r.overflow]

/-- READ SHORTFALL (R84). -/
def State.readShortfall (e : Entry) (s : State) : State := s.answer e .ok (shortfallImage s.claim.last)

/-- READ STATUS: the bytes as they stand with the command itself out of the Command Queue (R163, R169). -/
def State.readStatus (e : Entry) (s : State) : State := s.answer e .ok s.statusBytes

/-- READ EVENTS: the nine counts are returned, and the Event Set is emptied (R167). -/
def State.readEvents (e : Entry) (s : State) : State :=
  ({ s with port := { s.port with events := .none } }).answer e .ok (s.port.events.counts.map byte1)

/-- PICK_AT (R120). -/
def execPickAt (s : State) : Host.Outcome State Fault Refusal := s.taking (Entry.runs .pickAt) State.pickAt

/-- READ_PICKS (R128). -/
def execReadPicks (s : State) : Host.Outcome State Fault Refusal := s.taking (Entry.runs .readPicks) State.readPicks

/-- READ_COLLISIONS (R113). -/
def execReadCollisions (s : State) : Host.Outcome State Fault Refusal :=
  s.taking (Entry.runs .readCollisions) State.readCollisions

/-- READ_SHORTFALL (R84). -/
def execReadShortfall (s : State) : Host.Outcome State Fault Refusal := s.taking (Entry.runs .readShortfall) State.readShortfall

/-- READ_STATUS (R169). -/
def execReadStatus (s : State) : Host.Outcome State Fault Refusal := s.taking (Entry.runs .readStatus) State.readStatus

/-- READ_EVENTS (R167). -/
def execReadEvents (s : State) : Host.Outcome State Fault Refusal := s.taking (Entry.runs .readEvents) State.readEvents

end Sys2Proof.Machine
end

