-- ==== Sys2Proof/Machine/Dispatch.lean ====
section
/-! DEFINITION. The meaning of every happening, one arm for each row of spec/opcode_table.json. -/

namespace Sys2Proof.Machine

/-- A happening's effect on everything but the queue of pending happenings. -/
def exec (i : Instr) (s : State) : Host.Outcome State Fault Refusal :=
  match i with
  | .resetPinAsserted => Sys2Proof.Machine.execResetPinAsserted s
  | .resetPinReleased station preset video => Sys2Proof.Machine.execResetPinReleased station preset video s
  | .commandFrameReceived bytes inService => Sys2Proof.Machine.execCommandFrameReceived bytes inService s
  | .ignoredTransaction kind count => Sys2Proof.Machine.execIgnoredTransaction kind count s
  | .readTransaction count => Sys2Proof.Machine.execReadTransaction count s
  | .badFrameEntryTaken => Sys2Proof.Machine.execBadFrameEntryTaken s
  | .unknownCodeTaken => Sys2Proof.Machine.execUnknownCodeTaken s
  | .objectWriteNow => Sys2Proof.Machine.execObjectWriteNow s
  | .objectWriteAtFrame => Sys2Proof.Machine.execObjectWriteAtFrame s
  | .objectMoveNow => Sys2Proof.Machine.execObjectMoveNow s
  | .objectMoveAtFrame => Sys2Proof.Machine.execObjectMoveAtFrame s
  | .objectRead => Sys2Proof.Machine.execObjectRead s
  | .flushPending => Sys2Proof.Machine.execFlushPending s
  | .tintWrite => Sys2Proof.Machine.execTintWrite s
  | .surfaceWrite => Sys2Proof.Machine.execSurfaceWrite s
  | .portWriteAccessServed => Sys2Proof.Machine.execPortWriteAccessServed s
  | .surfaceRead => Sys2Proof.Machine.execSurfaceRead s
  | .portReadAccessServed => Sys2Proof.Machine.execPortReadAccessServed s
  | .fill => Sys2Proof.Machine.execFill s
  | .copy => Sys2Proof.Machine.execCopy s
  | .line => Sys2Proof.Machine.execLine s
  | .seek => Sys2Proof.Machine.execSeek s
  | .plot => Sys2Proof.Machine.execPlot s
  | .probe => Sys2Proof.Machine.execProbe s
  | .engineAccessServed => Sys2Proof.Machine.execEngineAccessServed s
  | .drawAbort inService => Sys2Proof.Machine.execDrawAbort inService s
  | .restart inService => Sys2Proof.Machine.execRestart inService s
  | .paletteWrite => Sys2Proof.Machine.execPaletteWrite s
  | .pickAt => Sys2Proof.Machine.execPickAt s
  | .readPicks => Sys2Proof.Machine.execReadPicks s
  | .readCollisions => Sys2Proof.Machine.execReadCollisions s
  | .readShortfall => Sys2Proof.Machine.execReadShortfall s
  | .readMembers => Sys2Proof.Machine.execReadMembers s
  | .detach => Sys2Proof.Machine.execDetach s
  | .rejoin => Sys2Proof.Machine.execRejoin s
  | .readStatus => Sys2Proof.Machine.execReadStatus s
  | .readEvents => Sys2Proof.Machine.execReadEvents s
  | .lmarkLeadingEdge => Sys2Proof.Machine.execLmarkLeadingEdge s
  | .lineMark => Sys2Proof.Machine.execLineMark s
  | .frameMark => Sys2Proof.Machine.execFrameMark s
  | .lineTimerRunsOut => Sys2Proof.Machine.execLineTimerRunsOut s
  | .silenceCountLimit => Sys2Proof.Machine.execSilenceCountLimit s
  | .frameWord others => Sys2Proof.Machine.execFrameWord others s
  | .announcePlace others => Sys2Proof.Machine.execAnnouncePlace others s
  | .claimRound bids held => Sys2Proof.Machine.execClaimRound bids held s
  | .fetchAccessServed => Sys2Proof.Machine.execFetchAccessServed s
  | .columnResolved rivals held join => Sys2Proof.Machine.execColumnResolved rivals held join s
  | .picktrigEdge => Sys2Proof.Machine.execPicktrigEdge s
  | .badLengthEntryTaken => Sys2Proof.Machine.execBadLengthEntryTaken s

end Sys2Proof.Machine
end

