-- ==== Sys2Proof/Machine/Step.lean ====
section
/-! DEFINITION. One step: the happening at the front of the queue, with the rest of the queue behind it; on an empty
queue one pixel time passes (log entry 3). -/

namespace Sys2Proof.Machine

/-- The state with another queue of pending happenings. -/
def State.withPending (s : State) (q : List Instr) : State := { s with pending := q }

/-- One step. -/
def step (s : State) : Host.Outcome State Fault Refusal :=
  match s.pending with
  | [] => .next s.tick
  | c :: rest => exec c (s.withPending rest)

/-- The state with the happening that a table word spells at the front of its queue; no word spells one. -/
def State.withFetchWord (s : State) (nbits w : Nat) : State :=
  match decodeTableWord nbits w with
  | none => s
  | some c => s.withPending (c :: s.pending)

end Sys2Proof.Machine
end

