-- ==== Sys2Proof/Safety.lean ====
section
/-! DEFINITION. What a sound station is, in the terms the claims use: the conditions under which an entry is taken, the
capacities of its collections, the ranges of its records, and how its blocks stand to one another. -/

namespace Sys2Proof.Machine

/-! ### Taking a command -/

/-- The entry `e` stands at the head of the Command Queue with `rest` behind it, the reset pin is released, and the three
conditions of R161 hold: nothing holds the port, the response budget has room, and for a draw command the Draw Queue has
room. -/
structure State.Takes (s : State) (e : Entry) (rest : List Entry) : Prop where
  live : s.resetPin = false
  head : s.port.commands = e :: rest
  free : s.port.transfer = none
  budget : s.port.responses.length + s.unanswered < 8
  room : e.isDraw = true → s.engine.queue.length < 4

/-- The state in which the head has been taken and answered, with nothing else of the port changed. -/
def State.answered (s : State) (e : Entry) (rest : List Entry) (status : Status) (payload : List Byte) : State :=
  { s with port := { s.port with
      commands := rest
      responses := s.port.responses ++ [{ tag := e.tag, code := e.code, status := status, payload := payload }] } }

/-- The head has left the Command Queue, and nothing else has changed. -/
def State.without (s : State) (rest : List Entry) : State := { s with port := { s.port with commands := rest } }

/-- The ordinary entry of a frame with the payload given, of at most 248 bytes (R159). -/
def Entry.ordinary (code tag : Byte) (payload : List Byte) : Entry :=
  { bad := false, code := code, tag := tag, length := payload.length, payload := payload }

/-- The rows that take an entry from the head of the Command Queue. -/
def takingRows : List Instr :=
  [.badFrameEntryTaken, .unknownCodeTaken, .badLengthEntryTaken, .objectWriteNow, .objectWriteAtFrame, .objectMoveNow,
    .objectMoveAtFrame, .objectRead, .flushPending, .tintWrite, .surfaceWrite, .surfaceRead, .fill, .copy, .line, .seek,
    .plot, .probe, .paletteWrite, .pickAt, .readPicks, .readCollisions, .readShortfall, .readMembers, .detach, .rejoin,
    .readStatus, .readEvents]

/-- The rows of the six draw commands, each with its command, code and payload length (Tables 9-1 and 10-6). -/
def drawRows : List (Instr × Command × Byte × Nat) :=
  [(.fill, .fill, 0x30#8, 10), (.copy, .copy, 0x31#8, 13), (.line, .line, 0x32#8, 10), (.seek, .seek, 0x33#8, 6),
    (.plot, .plot, 0x34#8, 6), (.probe, .probe, 0x35#8, 5)]

/-- One more count of an event, staying at 255 (R166). -/
def oneMore (n : Nat) : Nat := if n < 255 then n + 1 else 255

/-! ### Capacities -/

/-- The responses for which room is held: those in the queue, the draw commands not yet answered, and the transfer that
holds the port (R161). -/
def State.reserved (s : State) : Nat :=
  s.port.responses.length + s.unanswered + (if s.port.transfer.isSome then 1 else 0)

/-- Every collection holds no more than its capacity. -/
structure State.WithinCapacity (s : State) : Prop where
  commands : s.port.commands.length ≤ 8
  budget : s.reserved ≤ 8
  drawQueue : s.engine.queue.length ≤ 4
  idleEmpty : s.engine.mode = .idle → s.engine.queue = []
  updates : s.table.updates.length ≤ 16
  candidates : s.claim.candidates.length ≤ 16
  rounds : ∀ r ∈ s.claim.window, s.claim.grants.length = r ∧ r < 16
  grants : s.claim.grants.length ≤ 16
  ownGrants : s.claim.ownGrants.length ≤ s.claim.grants.length
  buffer : s.lines.buffer.length ≤ s.claim.ownGrants.length
  points : s.picks.points.length ≤ 4
  picks : s.picks.queue.length ≤ 4
  collisions : s.collisions.length ≤ 8

/-! ### Link and membership -/

/-- The Link Timing Unit and the Membership Unit stand to each other as Chapters 2 and 3 give: the line counter stays below
T, the silence count at most 2 × T, the line timer runs exactly in the driving states, a station in any other state drives no
line, the flags stand only in the states that set them, and an unsynced station holds no window, fetch or active part. -/
structure State.LinkSound (s : State) : Prop where
  counter : s.link.lineCounter < s.geometry.totalLines
  silence : s.link.silenceCount ≤ 2 * s.geometry.totalLines
  timer : s.link.lineTimer.isSome = s.member.own.drives
  silent : s.member.own.drives = false → s.link.lmark = none ∧ s.link.ldata = released ∧ s.link.ldataJoin = released
  admitted : s.member.admitted = true → s.member.own = .founding ∨ s.member.own = .joining
  detaching : s.member.detachPending = true → s.member.own = .member
  waits : s.member.windowWait < 3
  listens : s.member.listenCount < 2
  members : s.member.members.length = 8
  missed : ∀ e ∈ s.member.members, e.missed ≤ 3 ∧ (e.present = false → e.missed = 0)
  place : ∀ w ∈ s.member.announce, w.place < 8
  edge : s.link.edgeSeen = true → s.claim.window = none ∧ s.lines.fetching = false ∧ s.member.announce = none
  unsynced : s.link.synced = false →
    s.claim.window = none ∧ s.lines.fetching = false ∧ s.lines.column = none ∧ s.member.announce = none

/-! ### Ranges of the records -/

/-- A record as R1 has it: the cleared record, or one not EMPTY that keeps the ranges and fit conditions. -/
def recordSound (r : ObjectRecord) : Bool := r == .cleared || (r.state != .empty && recordFits r)

/-- A pending entry holds what its command's checks let pass (R5, R8, R11). -/
def updateSound : PendingEntry → Bool
  | .whole n r => decide (n < objectCount) && recordSound r
  | .move n x y => decide (n < objectCount) && positionFits x y

/-- A captured copy keeps the fit conditions of its record and covers line `L` (R1, R19, R20). -/
def copySound (L : Nat) (c : Candidate) : Bool :=
  decide (1 ≤ c.width) && decide (c.sourceX + c.width ≤ surfaceSize) && decide (c.sourceY + c.height ≤ surfaceSize)
    && decide (c.screenY ≤ L) && decide (L < c.screenY + c.height) && c.tint.all tintFits

/-- An ordinary entry's payload has the length the entry states (R159). -/
def entrySound (e : Entry) : Bool := e.bad || decide (248 < e.length) || e.payload.length == e.length

/-- A port transfer stays on its row of the surface and has a pixel left (R135 … R137). -/
def transferSound : Transfer → Bool
  | .write _ x y pixels next => runFits x y pixels.length && decide (next < pixels.length)
  | .read _ x y count got => runFits x y count && decide (got.length < count)

/-- A command at the engine passed its checks, and has a pixel left (R145). -/
def runningSound (d : DrawCmd) (p : Progress) : Bool := drawFits d && decide (p.done < pixelCount d)

/-- The command at the engine is sound. -/
def engineSound : EngineMode → Bool
  | .idle => true
  | .waiting e => drawFits e.cmd
  | .running e p => runningSound e.cmd p
  | .stopping e p _ => runningSound e.cmd p

/-- The row in progress has a pixel left to read, and belongs to the own grant whose copy it shows (R87, R88). -/
def State.fetchSound (s : State) : Bool :=
  match s.fetchGrant, s.fetchRow with
  | some g, some r => r.width == g.copy.width && decide (r.pixels.length < r.width)
  | _, _ => false

/-- Every stored record, copy, transfer and command names places that exist (R1, R131). -/
structure State.PlacesSound (s : State) : Prop where
  records : ∀ r ∈ s.table.objects, recordSound r = true
  updates : ∀ u ∈ s.table.updates, updateSound u = true
  entries : ∀ e ∈ s.port.commands, entrySound e = true
  transfer : ∀ t ∈ s.port.transfer, transferSound t = true
  queue : ∀ e ∈ s.engine.queue, drawFits e.cmd = true
  engine : engineSound s.engine.mode = true
  candidates : s.claim.window.isSome = true → ∀ c ∈ s.claim.candidates, copySound s.link.lineCounter c = true
  ownGrants : s.claim.window.isSome = true ∨ s.lines.fetching = true →
    ∀ g ∈ s.claim.ownGrants, copySound s.link.lineCounter g.copy = true
  fetch : s.lines.fetching = true → s.claim.window = none ∧ s.fetchSound = true
  edge : s.link.edgeSeen = true → s.claim.window = none ∧ s.lines.fetching = false

/-! ### The next draw command -/

/-- The OK response of a draw command all of whose pixels are processed without an access (R146, R154). -/
def DrawEntry.endedResponse (e : DrawEntry) : Response :=
  ⟨e.tag, drawCode e.cmd, .ok, endState e.cmd { done := pixelCount e.cmd, source := none, found := false, value := 0#8 }⟩

/-- Of a Draw Queue `skipped ++ tail`: the commands of `skipped` end as soon as they are taken, since they neither wait for a
frame mark nor present an access, and the first of `tail`, where there is one, does not (R143, R146). -/
structure SkipsTo (skipped tail : List DrawEntry) : Prop where
  ended : ∀ e ∈ skipped, drawSync e.cmd = false ∧ presentsNothing e.cmd = true
  stays : ∀ e ∈ tail.head?, drawSync e.cmd = true ∨ presentsNothing e.cmd = false

/-- The engine has taken its next command from a Draw Queue `skipped ++ tail`: those skipped are answered in their order, and
the first of `tail` waits for a frame mark or runs, or the engine is IDLE (R143, R146). -/
def State.takesNext (s : State) (skipped tail : List DrawEntry) : State :=
  { s with
    port := { s.port with responses := s.port.responses ++ skipped.map DrawEntry.endedResponse }
    engine := match tail with
      | [] => { mode := .idle, queue := [] }
      | e :: rest =>
        if drawSync e.cmd then { mode := .waiting e, queue := rest } else { mode := .running e Progress.none, queue := rest } }

/-- `n` engine accesses are served one after another; `none` where one does not answer a next state. -/
def serveEngine : Nat → State → Option State
  | 0, s => some s
  | n + 1, s =>
    match exec .engineAccessServed s with
    | .next t => serveEngine n t
    | .fault _ => none
    | .refused _ => none

/-! ### Orders -/

/-- The orders and the distinctness the rules give the collections of a line, and the Collision Log: the grant list and the
own grants stand in slot order, below the round to come; no pair is granted twice; the line buffer holds rows of the first
own grants, in their order; and no two records of the log carry one pair key (R72, R73, R79, R86, R109). -/
structure State.OrderSound (s : State) : Prop where
  grants : s.claim.grants.Pairwise fun a b => a.slot < b.slot
  pairs : s.claim.grants.Pairwise fun a b => ¬(a.station = b.station ∧ a.object = b.object)
  ownGrants : s.claim.ownGrants.Pairwise fun a b => a.slot < b.slot
  rounds : ∀ r ∈ s.claim.window, (∀ g ∈ s.claim.grants, g.slot < r) ∧ ∀ g ∈ s.claim.ownGrants, g.slot < r
  buffer : s.lines.buffer.Pairwise fun a b => a.slot < b.slot
  rows : s.lines.buffer.map Row.slot <+: s.claim.ownGrants.map OwnGrant.slot
  log : s.collisions.Pairwise fun a b => ¬(a.frame = b.frame ∧ a.own = b.own ∧ a.station = b.station ∧ a.object = b.object)

/-- The fixed lengths and the canonical surface (R1, R16, R48, R100, R131). -/
structure State.ShapeSound (s : State) : Prop where
  objects : s.table.objects.length = 48
  tints : s.tints.length = 512
  palette : s.output.palette.length = 256
  members : s.member.members.length = 8
  surface : Memory.wf s.surface = true
  events : ∀ n ∈ s.port.events.counts, n ≤ 255

end Sys2Proof.Machine
end

