-- ==== Sys2Proof/WellFormed.lean ====
section
/-! DEFINITION. When a happening's operands are what the spec allows them to be. -/

namespace Sys2Proof

/-- The bytes of one command frame, whole or cut, with none after the check byte; no byte where the frame is cut inside
its first (R158, Table 10-1). -/
def frameWellFormed (bytes : List Byte) : Bool :=
  match bytes[2]? with
  | none => true
  | some n => decide (bytes.length ≤ 4 + n.toNat)

/-- A word a bidding station drives in a claim round: the presence line driven 0 (Table 4-2). -/
def bidWellFormed (w : Lines) : Bool := !w.getLsbD 15

/-- A word a station drives in the winner phase of a column: presence driven 0, lines 13 and 14 released (R94). -/
def rivalWellFormed (w : Lines) : Bool := !w.getLsbD 15 && w.getLsbD 14 && w.getLsbD 13

/-- The operand checks of each happening. Six key lines settle in a claim round, and four slot lines in a column (R69, R94). -/
def Instr.wellFormed : Instr → Bool
  | .commandFrameReceived bytes _ => frameWellFormed bytes
  | .ignoredTransaction kind _ => kind != 1#8 && kind != 2#8
  | .claimRound bids held => bids.all bidWellFormed && decide (held.settling.length ≤ 6)
  | .columnResolved rivals held _ => rivals.all rivalWellFormed && decide (held.settling.length ≤ 4)
  | .resetPinAsserted | .resetPinReleased _ _ _ | .readTransaction _ | .badFrameEntryTaken | .unknownCodeTaken
  | .objectWriteNow | .objectWriteAtFrame | .objectMoveNow | .objectMoveAtFrame | .objectRead | .flushPending
  | .tintWrite | .surfaceWrite | .portWriteAccessServed | .surfaceRead | .portReadAccessServed
  | .fill | .copy | .line | .seek | .plot | .probe | .engineAccessServed | .drawAbort _ | .restart _
  | .paletteWrite | .pickAt | .readPicks | .readCollisions | .readShortfall | .readMembers | .detach | .rejoin
  | .readStatus | .readEvents | .lmarkLeadingEdge | .lineMark | .frameMark | .lineTimerRunsOut
  | .silenceCountLimit | .frameWord _ | .announcePlace _ | .fetchAccessServed | .picktrigEdge
  | .badLengthEntryTaken => true

end Sys2Proof
end

