-- ==== Sys2Proof/Certificates/Slice0/Obligations.lean ====
section
/-! DEFINITION. The statements for the provers, listed in OBLIGATIONS.json. A statement that gives the whole next state
as a record update says with it that every other part of the state is unchanged. -/

section Statements

open Sys2Proof Sys2Proof.Machine

/-! ### The block as a whole -/

/-- A step with a happening at the front of the queue is exec of it on the state with the queue's rest. -/
def Obligations.StepRunsTheFrontHappening : Prop :=
  ∀ (c : Instr) (s : State) (rest : List Instr), s.pending = c :: rest → step s = exec c { s with pending := rest }

/-- A step on an empty queue lets one pixel time pass, and nothing while the reset pin is asserted. The model's choice
(log entry 3), with the clocks of R23, R30 and R32, the mark lengths of R24 and the outputs of R103 and R104. Where a
happening first brings the position to its own pixel time, the pixel times on the way pass one by one in the same manner, and
a position already past it is kept (the model's choice, log entry 4). -/
def Obligations.IdleStepPassesOnePixelTime : Prop :=
  ∀ s : State, s.pending = [] →
    (s.resetPin = true → step s = .next s) ∧
    (s.resetPin = false → step s = .next { s with
      link := { s.link with
        lineTimer := s.link.lineTimer.map fun t => min s.geometry.linePixels (t + 1)
        silenceCount := min (2 * s.geometry.totalLines)
          (s.link.silenceCount + (s.link.silencePixels + 1) / s.geometry.linePixels)
        silencePixels := (s.link.silencePixels + 1) % s.geometry.linePixels
        pixelTime := s.link.pixelTime + 1
        lmark := match s.link.lmark with
          | none => none
          | some .line => if s.link.pixelTime + 1 < 2 then some .line else none
          | some .frame => if s.link.pixelTime + 1 < 8 then some .frame else none
        ldata := released
        ldataJoin := released }
      output := { s.output with rgb := .black, hsync := s.output.hsync && decide (s.link.pixelTime + 1 < 8) } }) ∧
    (∀ p : Nat, p ≤ s.link.pixelTime → s.reach p = s) ∧
    (∀ (p : Nat) (t : State), s.resetPin = false → s.link.pixelTime < p → step s = .next t → s.reach p = t.reach p) ∧
    (∀ (p : Nat) (waiting : List Instr), ({ s with pending := waiting } : State).reach p =
      { s.reach p with pending := waiting })

/-- No happening changes the queue of happenings that wait. -/
def Obligations.ExecKeepsThePendingHappenings : Prop :=
  ∀ (c : Instr) (s t : State), exec c s = .next t → t.pending = s.pending

/-! ### The resets -/

/-- What the reset pin sets (R3, R15, R16, R22, Table 2-2, Table 3-3, R79, R81, R86, R100, R109, R119, R131, R141, R170). -/
def Obligations.ResetLeavesEveryBlockInitial : Prop :=
  State.reset.table.objects = List.replicate 48 .cleared ∧ State.reset.table.updates = [] ∧
  State.reset.tints = List.replicate 512 0#8 ∧
  State.reset.claim.candidates = [] ∧ State.reset.claim.grants = [] ∧ State.reset.claim.ownGrants = [] ∧
  State.reset.claim.current = .cleared 0#8 ∧ State.reset.claim.last = .cleared 0#8 ∧
  State.reset.link.synced = false ∧ State.reset.link.lineCounter = 0 ∧ State.reset.link.frameNumber = 0#8 ∧
  State.reset.link.lineTimer = none ∧ State.reset.link.silenceCount = 0 ∧
  State.reset.link.lmark = none ∧ State.reset.link.ldata = released ∧
  State.reset.member.own = .listen ∧ State.reset.member.listenCount = 0 ∧ State.reset.member.windowWait = 0 ∧
  State.reset.member.admitted = false ∧ State.reset.member.detachPending = false ∧
  State.reset.member.members = List.replicate 8 .absent ∧
  State.reset.lines.buffer = [] ∧ State.reset.output.palette = List.replicate 256 .black ∧
  State.reset.collisions = [] ∧ State.reset.picks.points = [] ∧ State.reset.picks.trigger = false ∧
  State.reset.picks.queue = [] ∧ (∀ x y, State.reset.pixel x y = 0#8) ∧
  State.reset.engine = { mode := .idle, queue := [] } ∧
  State.reset.port.commands = [] ∧ State.reset.port.responses = [] ∧ State.reset.port.events = .none ∧
  State.reset.port.transfer = none ∧ State.reset.interrupt = false

/-- Both edges of the reset pin set every block to its initial value; the release samples the straps, and the count of
nonces drawn is kept, since no reset sets the nonce counter (R26, R42, R45, R170; log entry 12).
While the reset pin is asserted no other happening changes the station (R158, R170; log entry 12). -/
def Obligations.ResetPinSetsEveryBlock : Prop :=
  (∀ s : State,
      exec .resetPinAsserted s = .next { State.reset with
        resetPin := true, straps := s.straps, pending := s.pending
        member := { State.reset.member with nonceDraws := s.member.nonceDraws } } ∧
      ∀ (station : BitVec 3) (preset : BitVec 2) (video : Bool),
        exec (.resetPinReleased station preset video) s = .next { State.reset with
          resetPin := false, straps := { station := station, preset := preset, video := video }, pending := s.pending
          member := { State.reset.member with nonceDraws := s.member.nonceDraws } }) ∧
  (∀ (c : Instr) (s : State), s.resetPin = true → c ≠ .resetPinAsserted →
      (∀ station preset video, c ≠ .resetPinReleased station preset video) → exec c s = .next s)

/-- RESTART resets the blocks of Table 10-4, keeps the straps, the Tint Pool, the palette and the surface, and leaves STATE
with count 1 alone in the Event Set; an access in service ends whole, a write of the port or of the engine at its own
pixel (R139, R157, R165). That it ends at that instant, inside RESTART and before the blocks are reset, is the model's choice
(log entry 10). That the position in the line, an edge still to be decided (with an own frame assertion that stood
past its decision point, R39), the HSYNC pulse and the PDO record stay is the model's choice (log entry 16), and so are that the
assertion has stood past that point only after pixel time 4 (log entry 5) and how the access in service is known (log entry
9). -/
def Obligations.RestartResetsTheBlocks : Prop :=
  ∀ (s : State) (inService : Option Client), s.resetPin = false → s.finishFault inService = none →
    exec (.restart inService) s = .next { State.reset with
      resetPin := false, straps := s.straps, pending := s.pending
      port := { State.reset.port with events := { Events.none with state := 1 }, pdo := s.port.pdo }
      tints := s.tints
      link := { State.reset.link with
        pixelTime := s.link.pixelTime, edgeSeen := s.link.edgeSeen
        frameDriven := s.link.frameDriven && decide (4 < s.link.pixelTime) }
      member := { State.reset.member with nonceDraws := s.member.nonceDraws }
      output := { State.reset.output with palette := s.output.palette, hsync := s.output.hsync }
      surface := (s.finishAccess inService).surface } ∧
    (inService = none → s.arbiter.held = none → (s.finishAccess inService).surface = s.surface) ∧
    (s.serving inService = none ∨ s.serving inService = some .fetch → (s.finishAccess inService).surface = s.surface) ∧
    (∀ e p, s.serving inService = some .engine → engineCurrent s.engine.mode = some (e, p) →
      (s.finishAccess inService).surface =
        match accessWrite e.cmd p (s.pixel (accessPosition e.cmd p).1 (accessPosition e.cmd p).2) with
        | none => s.surface
        | some v => Memory.write s.surface (512 * (accessPosition e.cmd p).2 + (accessPosition e.cmd p).1) v) ∧
    (∀ tag x y count got, s.port.transfer = some (.read tag x y count got) → s.serving inService = some .port →
      (s.finishAccess inService).surface = s.surface) ∧
    (∀ tag x y pixels next, s.port.transfer = some (.write tag x y pixels next) → s.mayServe .port = true →
      inService = some .port →
      (s.finishAccess inService).surface = Memory.write s.surface (512 * y + (x + next)) (pixels.getD next 0#8))

/-! ### The Command Port -/

/-- A frame with a passing check that is no immediate command joins the tail of the Command Queue, or is dropped with
OVERRUN where eight entries wait; a length of 249 … 255 keeps no payload; PDO carries 00h throughout (R158, R159).
A cut frame, or one whose check fails, is offered as a bad-frame entry with its code and tag as received, 00h where the
byte did not arrive, a frame cut inside its first byte among them (R158, R159). An access that is being served as the frame
arrives keeps the arbiter until it ends, and no other is still under service from before (R133; the operand that names it, or
none, and the two flags are the model's own, log entry 9). The record of PDO is the model's own (log entry 14).
A frame of DRAW ABORT or RESTART with a passing check and length 0 acts as the immediate command, whatever the Command
Queue holds (R159, R164). -/
def Obligations.CommandFrameIsReceived : Prop :=
  (∀ (s : State) (code tag : Byte) (payload : List Byte) (inService : Option Client),
      s.resetPin = false → payload.length ≤ 255 → ¬(payload = [] ∧ (code = 0x3F#8 ∨ code = 0x7F#8)) →
      exec (.commandFrameReceived (commandFrame code tag payload) inService) s = .next { s with
        port := { s.port with
          commands := if s.port.commands.length < 8 then
              s.port.commands ++ [{ bad := false, code := code, tag := tag, length := payload.length,
                                    payload := if payload.length ≤ 248 then payload else [] }]
            else s.port.commands
          events := if s.port.commands.length < 8 then s.port.events
            else { s.port.events with overrun := oneMore s.port.events.overrun }
          pdo := List.replicate (payload.length + 4) 0#8 }
        arbiter := { portMayHold := false, engineMayHold := false, held := s.serving inService } }) ∧
  (∀ (s : State) (bytes : List Byte) (inService : Option Client),
      s.resetPin = false → frameWellFormed bytes = true →
      bytes.length < 4 + byteAt bytes 2 ∨ frameSum bytes ≠ 0#8 →
      exec (.commandFrameReceived bytes inService) s = .next { s with
        port := { s.port with
          commands := if s.port.commands.length < 8 then
              s.port.commands ++ [{ bad := true, code := bytes.getD 0 0#8, tag := bytes.getD 1 0#8, length := 0,
                                    payload := [] }]
            else s.port.commands
          events := if s.port.commands.length < 8 then s.port.events
            else { s.port.events with overrun := oneMore s.port.events.overrun }
          pdo := List.replicate bytes.length 0#8 }
        arbiter := { portMayHold := false, engineMayHold := false, held := s.serving inService } }) ∧
  (∀ (s : State) (tag : Byte) (inService : Option Client), s.resetPin = false →
      exec (.commandFrameReceived (commandFrame 0x3F#8 tag []) inService) s =
        exec (.drawAbort inService) { s with port := { s.port with pdo := List.replicate 4 0#8 } } ∧
      exec (.commandFrameReceived (commandFrame 0x7F#8 tag []) inService) s =
        exec (.restart inService) { s with port := { s.port with pdo := List.replicate 4 0#8 } })

/-- A transaction of any other kind is ignored; a read transaction that clocks a byte after its kind byte takes the head
response out of the queue and sends it, or sends the idle marker; one that clocks none takes nothing (R158, R163). The record of
PDO is the model's own (log entry 14). -/
def Obligations.TransactionsSendTheirBytes : Prop :=
  ∀ s : State, s.resetPin = false →
    (∀ (kind : Byte) (count : Nat), kind ≠ 1#8 → kind ≠ 2#8 →
      exec (.ignoredTransaction kind count) s =
        .next { s with port := { s.port with pdo := List.replicate (count + 1) 0#8 } }) ∧
    exec (.readTransaction 0) s = .next { s with port := { s.port with pdo := [0#8] } } ∧
    (∀ count, s.port.responses = [] →
      exec (.readTransaction (count + 1)) s =
        .next { s with port := { s.port with pdo := List.replicate (count + 2) 0#8 } }) ∧
    (∀ count r rest, s.port.responses = r :: rest →
      exec (.readTransaction (count + 1)) s = .next { s with port := { s.port with
        responses := rest
        pdo := 0#8 :: (responseFrame r ++ List.replicate (count + 1) 0#8).take (count + 1) } })

/-- INT is asserted exactly while the Event Set holds a kind or the Response Queue a response; the reset pin releases it
and RESTART leaves it asserted (R168). -/
def Obligations.InterruptFollowsItsCollections : Prop :=
  (∀ s : State, s.interrupt = true ↔ (∃ n ∈ s.port.events.counts, 1 ≤ n) ∨ s.port.responses ≠ []) ∧
  (∀ s t : State, exec .resetPinAsserted s = .next t → t.interrupt = false) ∧
  (∀ (s t : State) (inService : Option Client), s.resetPin = false → exec (.restart inService) s = .next t →
    t.interrupt = true)

/-- While one of the three conditions fails, the head waits, and everything else with it (R161).
A bad-frame entry, an unknown code and a length its command does not allow are answered without reaching a block, and
nothing else in the station changes (R162, steps 1 … 3). The codes and the lengths are those of Table 10-6, and the draw
commands, whose code alone brings the third condition, are the six of R161. The draw commands accepted and not yet answered
are the one at the engine and the Draw Queue (R141); that the budget also counts the commands a stopping engine has yet to
answer ABORTED is the model's reading of R155 and R161 (log entry 11). -/
def Obligations.HeadIsAnsweredOrWaits : Prop :=
  (∀ (code : Byte) (c : Command), commandOf code = some c ↔ (code, c) ∈ ([(0x10#8, .objectWrite), (0x11#8, .objectMove),
    (0x12#8, .objectRead), (0x13#8, .flushPending), (0x14#8, .tintWrite), (0x20#8, .surfaceWrite), (0x21#8, .surfaceRead),
    (0x30#8, .fill), (0x31#8, .copy), (0x32#8, .line), (0x33#8, .seek), (0x34#8, .plot), (0x35#8, .probe),
    (0x3F#8, .drawAbort), (0x40#8, .paletteWrite), (0x50#8, .pickAt), (0x51#8, .readPicks), (0x58#8, .readCollisions),
    (0x60#8, .readShortfall), (0x61#8, .readMembers), (0x62#8, .detach), (0x63#8, .rejoin), (0x70#8, .readStatus),
    (0x71#8, .readEvents), (0x7F#8, .restart)] : List (Byte × Command))) ∧
  (∀ row ∈ ([(.objectWrite, 17), (.objectMove, 6), (.objectRead, 1), (.flushPending, 0), (.surfaceRead, 5), (.fill, 10),
    (.copy, 13), (.line, 10), (.seek, 6), (.plot, 6), (.probe, 5), (.drawAbort, 0), (.pickAt, 4), (.readPicks, 0),
    (.readCollisions, 1), (.readShortfall, 0), (.readMembers, 0), (.detach, 0), (.rejoin, 0), (.readStatus, 0),
    (.readEvents, 0), (.restart, 0)] : List (Command × Nat)), ∀ n, commandAllows row.1 n = true ↔ n = row.2) ∧
  (∀ n, (commandAllows .tintWrite n = true ↔ 3 ≤ n ∧ n ≤ 66) ∧ (commandAllows .surfaceWrite n = true ↔ 5 ≤ n ∧ n ≤ 244) ∧
    (commandAllows .paletteWrite n = true ↔ ∃ k, 1 ≤ k ∧ k ≤ 32 ∧ n = 1 + 3 * k)) ∧
  (∀ e : Entry, e.isDraw = true ↔
    e.code = 0x30#8 ∨ e.code = 0x31#8 ∨ e.code = 0x32#8 ∨ e.code = 0x33#8 ∨ e.code = 0x34#8 ∨ e.code = 0x35#8) ∧
  (∀ s : State, s.unanswered = s.engine.queue.length + match s.engine.mode with
    | .idle => 0 | .waiting _ => 1 | .running _ _ => 1 | .stopping _ _ aborted => 1 + aborted.length) ∧
  (∀ c ∈ takingRows, ∀ (s : State) (e : Entry) (rest : List Entry), s.port.commands = e :: rest →
      s.port.transfer ≠ none ∨ 8 ≤ s.port.responses.length + s.unanswered ∨
        (e.isDraw = true ∧ 4 ≤ s.engine.queue.length) →
      exec c s = .next s) ∧
  (∀ (s : State) (e : Entry) (rest : List Entry), s.Takes e rest →
      (e.bad = true → exec .badFrameEntryTaken s = .next (s.answered e rest .badFrame [])) ∧
      (e.bad = false → commandOf e.code = none → exec .unknownCodeTaken s = .next (s.answered e rest .unknown [])) ∧
      (∀ c, e.bad = false → commandOf e.code = some c → commandAllows c e.length = false →
        exec .badLengthEntryTaken s = .next (s.answered e rest .badLength [])))

/-- READ STATUS returns the sixteen bytes of Table 10-7 as they stand with the command out of its queue, and changes nothing
else (R169). -/
def Obligations.ReadStatusReturnsTheStatus : Prop :=
  ∀ (s : State) (tag : Byte) (rest : List Entry), s.Takes (.ordinary 0x70#8 tag []) rest →
    exec .readStatus s = .next (s.answered (.ordinary 0x70#8 tag []) rest .ok
      [match s.member.own with
        | .listen => 0#8 | .founding => 1#8 | .joining => 2#8 | .member => 3#8 | .conflict => 4#8 | .refused => 5#8
        | .detached => 6#8,
       BitVec.ofNat 8 s.straps.station.toNat, BitVec.ofNat 8 s.straps.preset.toNat,
       BitVec.ofNat 8 (0x50 + s.straps.preset.toNat), if s.link.synced then 1#8 else 0#8, s.link.frameNumber,
       BitVec.ofNat 8 s.link.lineCounter, BitVec.ofNat 8 (s.link.lineCounter / 256),
       match s.engine.mode with | .idle => 0#8 | .waiting _ => 1#8 | .running _ _ => 2#8 | .stopping _ _ _ => 2#8,
       BitVec.ofNat 8 s.engine.queue.length, BitVec.ofNat 8 rest.length, BitVec.ofNat 8 s.port.responses.length,
       BitVec.ofNat 8 s.collisions.length, BitVec.ofNat 8 s.picks.queue.length,
       BitVec.ofNat 8 s.table.updates.length, BitVec.ofNat 8 s.picks.points.length])

/-- READ EVENTS returns the nine counts in the order of Table 10-5 and empties the Event Set (R167).
READ SHORTFALL returns the last-frame record in the image of Table 4-5 and changes nothing else (R84).
READ COLLISIONS removes the oldest records, up to the number asked for, and returns them in the image of Table 6-2; a number
of 0 or above 8 is answered BAD_FIELD with the log unchanged (R113, R114).
READ PICKS removes the oldest record and returns it in the image of Table 7-2, or answers a count of 0 (R128). -/
def Obligations.ReadsAnswerFromTheRecords : Prop :=
  (∀ (s : State) (tag : Byte) (rest : List Entry), s.Takes (.ordinary 0x71#8 tag []) rest →
      exec .readEvents s = .next { s with port := { s.port with
        commands := rest
        events := .none
        responses := s.port.responses ++ [⟨tag, 0x71#8, .ok,
          [BitVec.ofNat 8 s.port.events.collision, BitVec.ofNat 8 s.port.events.logFull,
           BitVec.ofNat 8 s.port.events.pick, BitVec.ofNat 8 s.port.events.pickLost,
           BitVec.ofNat 8 s.port.events.shortfall, BitVec.ofNat 8 s.port.events.members,
           BitVec.ofNat 8 s.port.events.state, BitVec.ofNat 8 s.port.events.slip,
           BitVec.ofNat 8 s.port.events.overrun]⟩] } }) ∧
  (∀ (s : State) (tag : Byte) (rest : List Entry), s.Takes (.ordinary 0x60#8 tag []) rest →
      exec .readShortfall s = .next (s.answered (.ordinary 0x60#8 tag []) rest .ok
        [s.claim.last.frame,
         BitVec.ofNat 8 (s.claim.last.firstLine.getD 0xFFFF), BitVec.ofNat 8 (s.claim.last.firstLine.getD 0xFFFF / 256),
         BitVec.ofNat 8 (s.claim.last.firstObject.getD 0xFF), BitVec.ofNat 8 s.claim.last.denied,
         BitVec.ofNat 8 s.claim.last.overflow])) ∧
  (∀ (s : State) (tag n : Byte) (rest : List Entry), s.Takes (.ordinary 0x58#8 tag [n]) rest →
      (n = 0#8 ∨ 8 < n.toNat →
        exec .readCollisions s = .next (s.answered (.ordinary 0x58#8 tag [n]) rest .badField [])) ∧
      (1 ≤ n.toNat → n.toNat ≤ 8 →
        exec .readCollisions s = .next { s.answered (.ordinary 0x58#8 tag [n]) rest .ok
            (BitVec.ofNat 8 (min n.toNat s.collisions.length) :: (s.collisions.take n.toNat).flatMap fun r =>
              [r.frame, BitVec.ofNat 8 r.line, BitVec.ofNat 8 (r.line / 256), BitVec.ofNat 8 r.x,
               BitVec.ofNat 8 (r.x / 256), BitVec.ofNat 8 r.own,
               BitVec.ofNat 8 (r.station % 8 + if r.more then 128 else 0), BitVec.ofNat 8 (r.object % 64)]) with
          collisions := s.collisions.drop n.toNat })) ∧
  (∀ (s : State) (tag : Byte) (rest : List Entry), s.Takes (.ordinary 0x51#8 tag []) rest →
      (s.picks.queue = [] → exec .readPicks s = .next (s.answered (.ordinary 0x51#8 tag []) rest .ok [0#8])) ∧
      (∀ r others, s.picks.queue = r :: others →
        exec .readPicks s = .next { s.answered (.ordinary 0x51#8 tag []) rest .ok
            ([1#8, (match r.tag with | none => 1#8 | some _ => 0#8), r.tag.getD 0#8, r.frame,
              BitVec.ofNat 8 r.x, BitVec.ofNat 8 (r.x / 256), BitVec.ofNat 8 r.line, BitVec.ofNat 8 (r.line / 256)] ++
             (match r.winner with
              | .named station object cls =>
                [0#8, BitVec.ofNat 8 station, BitVec.ofNat 8 object, BitVec.ofNat 8 cls]
              | .backdrop => [1#8, 0#8, 0#8, 0xFF#8]
              | .unknown => [2#8, 0#8, 0#8, 0xFF#8]) ++
             [r.composed, BitVec.ofNat 8 r.own.length] ++
             r.own.flatMap fun p =>
               [BitVec.ofNat 8 p.slot, BitVec.ofNat 8 (p.object % 64 + if p.join then 128 else 0)]) with
          picks := { s.picks with queue := others } }))

/-- The frames' layouts: tag, code echo, status, length, payload and a check that makes the sum 0 modulo 256, with the status
codes of Table 10-3; and a command frame that is read as what it carries (Tables 10-1 and 10-2, R159).
The record image: its fifteen bytes (Table 1-3), and every record the table may hold is read back from them (R4, R5).
The payload of each draw command (Tables 9-1 and 9-2), and every draw command that passes its checks is read back from it
(R145). -/
def Obligations.FramesAndPayloadsReadBack : Prop :=
  ((∀ r : Response, frameSum (responseFrame r) = 0#8 ∧
      (responseFrame r).take (4 + r.payload.length) =
        [r.tag, r.code, statusByte r.status, BitVec.ofNat 8 r.payload.length] ++ r.payload ∧
      (responseFrame r).length = 5 + r.payload.length) ∧
    ([Status.ok, .badFrame, .unknown, .badLength, .badField, .full, .wrongState, .aborted].map statusByte =
      [0x01#8, 0x02#8, 0x03#8, 0x04#8, 0x05#8, 0x06#8, 0x07#8, 0x08#8]) ∧
    (∀ bytes : List Byte, frameSum bytes = BitVec.ofNat 8 (bytes.map BitVec.toNat).sum) ∧
    (∀ (code tag : Byte) (payload : List Byte), frameSum (commandFrame code tag payload) = 0#8 ∧
      (commandFrame code tag payload).take (3 + payload.length) =
        [code, tag, BitVec.ofNat 8 payload.length] ++ payload ∧
      (commandFrame code tag payload).length = 4 + payload.length) ∧
    (∀ (code tag : Byte) (payload : List Byte), payload.length ≤ 248 → commandOf code ≠ some .drawAbort →
      commandOf code ≠ some .restart →
      receive (commandFrame code tag payload) = .entry (Entry.ordinary code tag payload))) ∧
  (∀ r : ObjectRecord, recordSound r = true → (recordImage r).length = 15 ∧ readImage (recordImage r) = some r) ∧
  (∀ d : DrawCmd, drawFits d = true → readDraw (drawCommand d) (drawPayload d) = some d) ∧
  (let word := fun n : Nat => [BitVec.ofNat 8 n, BitVec.ofNat 8 (n / 256)]
   (∀ r : ObjectRecord, recordImage r =
      [match r.state with | .empty => 0#8 | .hidden => 1#8 | .shown => 2#8 | .terminal => 3#8] ++
        word (BitVec.ofInt 16 r.screenX).toNat ++ word r.screenY ++
        [BitVec.ofNat 8 r.width, BitVec.ofNat 8 r.height] ++ word r.sourceX ++ word r.sourceY ++
        [BitVec.ofNat 8 (r.cls + (if r.join then 8 else 0) + (if r.watched then 16 else 0) +
          (if r.mirror then 32 else 0) + (if r.tint.isSome then 64 else 0))] ++
        (match r.tint with | none => [0#8, 0#8, 0#8] | some t => word t.start ++ [BitVec.ofNat 8 t.length])) ∧
   (let mode := fun (op : DrawOp) (skip sync : Bool) =>
      (match op with | .set => 0 | .and => 1 | .or => 2 | .xor => 3 | .invert => 4) + (if skip then 8 else 0) +
        (if sync then 128 else 0)
    (∀ op skip sync x y w h colour, drawPayload (.fill op skip sync x y w h colour) =
      [BitVec.ofNat 8 (mode op skip sync)] ++ word x ++ word y ++ word w ++ word h ++ [colour]) ∧
    (∀ op skip left up sync sx sy dx dy w h, drawPayload (.copy op skip left up sync sx sy dx dy w h) =
      [BitVec.ofNat 8 (mode op skip sync + (if left then 16 else 0) + (if up then 32 else 0))] ++ word sx ++ word sy ++
        word dx ++ word dy ++ word w ++ word h) ∧
    (∀ op skip sync x0 y0 x1 y1 colour, drawPayload (.line op skip sync x0 y0 x1 y1 colour) =
      [BitVec.ofNat 8 (mode op skip sync)] ++ word x0 ++ word y0 ++ word x1 ++ word y1 ++ [colour]) ∧
    (∀ left differ sync x y value, drawPayload (.seek left differ sync x y value) =
      [BitVec.ofNat 8 ((if left then 16 else 0) + (if differ then 32 else 0) + (if sync then 128 else 0))] ++ word x ++
        word y ++ [value]) ∧
    (∀ op skip sync x y colour, drawPayload (.plot op skip sync x y colour) =
      [BitVec.ofNat 8 (mode op skip sync)] ++ word x ++ word y ++ [colour]) ∧
    (∀ sync x y, drawPayload (.probe sync x y) = [if sync then 128#8 else 0#8] ++ word x ++ word y)))

/-! ### Objects, tints and the palette -/

/-- The checks of a record image, by its state byte (R1, R5), and how its fields are read: two bytes low byte first, screen x
as two's complement (R4). -/
def Obligations.RecordImageIsCheckedWhole : Prop :=
  (∀ (p : List Byte) (i : Nat), byteAt p i = (p.getD i 0#8).toNat ∧
    wordAt p i = (p.getD i 0#8).toNat + 256 * (p.getD (i + 1) 0#8).toNat ∧
    intAt p i = (p.getD (i + 1) 0#8 ++ p.getD i 0#8 : BitVec 16).toInt) ∧
  ∀ p : List Byte, p.length = 15 →
    (byteAt p 0 = 0 → readImage p = some .cleared) ∧
    (3 < byteAt p 0 → readImage p = none) ∧
    (1 ≤ byteAt p 0 → byteAt p 0 ≤ 3 →
      ((readImage p).isSome = true ↔
        -64 ≤ intAt p 1 ∧ intAt p 1 ≤ 1023 ∧ wordAt p 3 ≤ 1023 ∧
        1 ≤ byteAt p 5 ∧ byteAt p 5 ≤ 64 ∧ 1 ≤ byteAt p 6 ∧ byteAt p 6 ≤ 64 ∧
        wordAt p 7 ≤ 511 ∧ wordAt p 9 ≤ 511 ∧ wordAt p 7 + byteAt p 5 ≤ 512 ∧ wordAt p 9 + byteAt p 6 ≤ 512 ∧
        byteAt p 11 < 128 ∧
        (64 ≤ byteAt p 11 → 1 ≤ byteAt p 14 ∧ byteAt p 14 ≤ 64 ∧ wordAt p 12 + byteAt p 14 ≤ 512) ∧
        (byteAt p 11 < 64 → byteAt p 12 = 0 ∧ byteAt p 13 = 0 ∧ byteAt p 14 = 0)))

/-- OBJECT WRITE with a timing byte other than 1: timing 0 with an object number below 48 and a passing image sets the record,
anything else is answered BAD_FIELD (R6).
OBJECT WRITE with timing 1: the checks come before the room test; the entry joins the Pending Update Queue with its level
answered, or FULL with sixteen entries (R7). -/
def Obligations.ObjectWriteSetsOrQueuesTheRecord : Prop :=
  (∀ (s : State) (tag timing n : Byte) (image : List Byte) (rest : List Entry),
      image.length = 15 → timing ≠ 1#8 → s.Takes (.ordinary 0x10#8 tag (timing :: n :: image)) rest →
      (∀ r, timing = 0#8 → n.toNat < 48 → readImage image = some r →
        exec .objectWriteNow s = .next { s.answered (.ordinary 0x10#8 tag (timing :: n :: image)) rest .ok [] with
          table := { s.table with objects := s.table.objects.set n.toNat r } }) ∧
      (timing ≠ 0#8 ∨ 48 ≤ n.toNat ∨ readImage image = none →
        exec .objectWriteNow s =
          .next (s.answered (.ordinary 0x10#8 tag (timing :: n :: image)) rest .badField []))) ∧
  (∀ (s : State) (tag n : Byte) (image : List Byte) (rest : List Entry),
      image.length = 15 → s.Takes (.ordinary 0x10#8 tag (1#8 :: n :: image)) rest →
      (∀ r, n.toNat < 48 → readImage image = some r → s.table.updates.length < 16 →
        exec .objectWriteAtFrame s = .next { s.answered (.ordinary 0x10#8 tag (1#8 :: n :: image)) rest .ok
            [BitVec.ofNat 8 (s.table.updates.length + 1)] with
          table := { s.table with updates := s.table.updates ++ [.whole n.toNat r] } }) ∧
      (∀ r, n.toNat < 48 → readImage image = some r → 16 ≤ s.table.updates.length →
        exec .objectWriteAtFrame s = .next (s.answered (.ordinary 0x10#8 tag (1#8 :: n :: image)) rest .full [])) ∧
      (48 ≤ n.toNat ∨ readImage image = none →
        exec .objectWriteAtFrame s = .next (s.answered (.ordinary 0x10#8 tag (1#8 :: n :: image)) rest .badField [])))

/-- OBJECT MOVE with a timing byte other than 1 sets the position of a record that is not EMPTY; an EMPTY one gives
WRONG_STATE and a failed check BAD_FIELD (R8).
OBJECT MOVE with timing 1 is queued whatever the state of the record named (R9). -/
def Obligations.ObjectMoveSetsOrQueuesThePosition : Prop :=
  (∀ (s : State) (tag timing n x0 x1 y0 y1 : Byte) (r : ObjectRecord) (rest : List Entry),
      timing ≠ 1#8 → s.Takes (.ordinary 0x11#8 tag [timing, n, x0, x1, y0, y1]) rest →
      s.table.objects.getD n.toNat .cleared = r →
      let x := (x1 ++ x0 : BitVec 16).toInt
      let y := (y1 ++ y0 : BitVec 16).toNat
      (timing = 0#8 → n.toNat < 48 → -64 ≤ x → x ≤ 1023 → y ≤ 1023 → r.state ≠ .empty →
        exec .objectMoveNow s = .next { s.answered (.ordinary 0x11#8 tag [timing, n, x0, x1, y0, y1]) rest .ok [] with
          table := { s.table with objects := s.table.objects.set n.toNat { r with screenX := x, screenY := y } } }) ∧
      (timing = 0#8 → n.toNat < 48 → -64 ≤ x → x ≤ 1023 → y ≤ 1023 → r.state = .empty →
        exec .objectMoveNow s =
          .next (s.answered (.ordinary 0x11#8 tag [timing, n, x0, x1, y0, y1]) rest .wrongState [])) ∧
      (timing ≠ 0#8 ∨ 48 ≤ n.toNat ∨ x < -64 ∨ 1023 < x ∨ 1023 < y →
        exec .objectMoveNow s =
          .next (s.answered (.ordinary 0x11#8 tag [timing, n, x0, x1, y0, y1]) rest .badField []))) ∧
  (∀ (s : State) (tag n x0 x1 y0 y1 : Byte) (rest : List Entry),
      s.Takes (.ordinary 0x11#8 tag [1#8, n, x0, x1, y0, y1]) rest →
      let x := (x1 ++ x0 : BitVec 16).toInt
      let y := (y1 ++ y0 : BitVec 16).toNat
      (n.toNat < 48 → -64 ≤ x → x ≤ 1023 → y ≤ 1023 → s.table.updates.length < 16 →
        exec .objectMoveAtFrame s = .next { s.answered (.ordinary 0x11#8 tag [1#8, n, x0, x1, y0, y1]) rest .ok
            [BitVec.ofNat 8 (s.table.updates.length + 1)] with
          table := { s.table with updates := s.table.updates ++ [.move n.toNat x y] } }) ∧
      (n.toNat < 48 → -64 ≤ x → x ≤ 1023 → y ≤ 1023 → 16 ≤ s.table.updates.length →
        exec .objectMoveAtFrame s =
          .next (s.answered (.ordinary 0x11#8 tag [1#8, n, x0, x1, y0, y1]) rest .full [])) ∧
      (48 ≤ n.toNat ∨ x < -64 ∨ 1023 < x ∨ 1023 < y →
        exec .objectMoveAtFrame s =
          .next (s.answered (.ordinary 0x11#8 tag [1#8, n, x0, x1, y0, y1]) rest .badField [])))

/-- OBJECT READ returns the record that stands in the table, in the fifteen bytes of Table 1-3, whatever waits in the Pending
Update Queue; a number above 47 is answered BAD_FIELD (R4, R10). -/
def Obligations.ObjectReadReturnsTheRecord : Prop :=
  ∀ (s : State) (tag n : Byte) (rest : List Entry), s.Takes (.ordinary 0x12#8 tag [n]) rest →
    let r := s.table.objects.getD n.toNat .cleared
    let x : BitVec 16 := BitVec.ofInt 16 r.screenX
    (n.toNat < 48 → exec .objectRead s = .next (s.answered (.ordinary 0x12#8 tag [n]) rest .ok
      ([match r.state with | .empty => 0#8 | .hidden => 1#8 | .shown => 2#8 | .terminal => 3#8,
        x.extractLsb' 0 8, x.extractLsb' 8 8, BitVec.ofNat 8 r.screenY, BitVec.ofNat 8 (r.screenY / 256),
        BitVec.ofNat 8 r.width, BitVec.ofNat 8 r.height, BitVec.ofNat 8 r.sourceX, BitVec.ofNat 8 (r.sourceX / 256),
        BitVec.ofNat 8 r.sourceY, BitVec.ofNat 8 (r.sourceY / 256),
        BitVec.ofNat 8 (r.cls + (if r.join then 8 else 0) + (if r.watched then 16 else 0) +
          (if r.mirror then 32 else 0) + (if r.tint.isSome then 64 else 0))] ++
       match r.tint with
       | none => [0#8, 0#8, 0#8]
       | some t => [BitVec.ofNat 8 t.start, BitVec.ofNat 8 (t.start / 256), BitVec.ofNat 8 t.length]))) ∧
    (48 ≤ n.toNat → exec .objectRead s = .next (s.answered (.ordinary 0x12#8 tag [n]) rest .badField []))

/-- FLUSH PENDING empties the queue without applying an entry, and answers the number discarded (R14). -/
def Obligations.FlushPendingDiscardsTheEntries : Prop :=
  ∀ (s : State) (tag : Byte) (rest : List Entry), s.Takes (.ordinary 0x13#8 tag []) rest →
    exec .flushPending s = .next { s.answered (.ordinary 0x13#8 tag []) rest .ok
        [BitVec.ofNat 8 s.table.updates.length] with
      table := { s.table with updates := [] } }

/-- TINT WRITE sets a run of the pool, and no other entry; a run past entry 511 is refused (R17).
PALETTE WRITE sets a run of the palette, and no other entry; a run past entry 255 or a level above 63 is refused
(R101). -/
def Obligations.TintAndPaletteWritesSetARun : Prop :=
  (∀ (s : State) (tag s0 s1 : Byte) (colours : List Byte) (rest : List Entry),
      1 ≤ colours.length → colours.length ≤ 64 → s.tints.length = 512 →
      s.Takes (.ordinary 0x14#8 tag (s0 :: s1 :: colours)) rest →
      let start := (s1 ++ s0 : BitVec 16).toNat
      (512 < start + colours.length →
        exec .tintWrite s = .next (s.answered (.ordinary 0x14#8 tag (s0 :: s1 :: colours)) rest .badField [])) ∧
      (start + colours.length ≤ 512 →
        ∃ tints, exec .tintWrite s =
            .next { s.answered (.ordinary 0x14#8 tag (s0 :: s1 :: colours)) rest .ok [] with tints := tints } ∧
          tints.length = 512 ∧
          (∀ i, i < colours.length → tints.getD (start + i) 0#8 = colours.getD i 0#8) ∧
          (∀ i, i < start ∨ start + colours.length ≤ i → tints.getD i 0#8 = s.tints.getD i 0#8))) ∧
  (∀ (s : State) (tag start : Byte) (entries : List Rgb) (rest : List Entry),
      1 ≤ entries.length → entries.length ≤ 32 → s.output.palette.length = 256 →
      let payload := start :: entries.flatMap fun c => [c.red, c.green, c.blue]
      s.Takes (.ordinary 0x40#8 tag payload) rest →
      (256 < start.toNat + entries.length ∨
          (∃ c ∈ entries, 63 < c.red.toNat ∨ 63 < c.green.toNat ∨ 63 < c.blue.toNat) →
        exec .paletteWrite s = .next (s.answered (.ordinary 0x40#8 tag payload) rest .badField [])) ∧
      (start.toNat + entries.length ≤ 256 →
        (∀ c ∈ entries, c.red.toNat ≤ 63 ∧ c.green.toNat ≤ 63 ∧ c.blue.toNat ≤ 63) →
        ∃ palette, exec .paletteWrite s = .next { s.answered (.ordinary 0x40#8 tag payload) rest .ok [] with
              output := { s.output with palette := palette } } ∧
          palette.length = 256 ∧
          (∀ i, i < entries.length → palette.getD (start.toNat + i) .black = entries.getD i .black) ∧
          (∀ i, i < start.toNat ∨ start.toNat + entries.length ≤ i →
            palette.getD i .black = s.output.palette.getD i .black)))

/-- How one entry of the Pending Update Queue is applied: a whole record replaces the named one; a move sets the position of
a record that is not EMPTY, and is discarded for one that is (R12).
The candidate list: the selected records in class order, highest first, and by number within a class; a record is selected
where it is SHOWN, covers the line and stands below the first TERMINAL record, and its captured copy holds every field of it
but the state (R19, R20). -/
def Obligations.TableFeedsTheCandidateList : Prop :=
  (∀ (objects : List ObjectRecord) (n : Nat), n < objects.length →
      (∀ (r : ObjectRecord) (m : Nat), (applyUpdate objects (.whole n r)).getD m .cleared =
        if m = n then r else objects.getD m .cleared) ∧
      (∀ (x : Int) (y m : Nat), (applyUpdate objects (.move n x y)).getD m .cleared =
        if m = n ∧ (objects.getD n .cleared).state ≠ .empty then
          { objects.getD n .cleared with screenX := x, screenY := y }
        else objects.getD m .cleared) ∧
      (∀ u, (applyUpdate objects u).length = objects.length)) ∧
  (∀ (n : Nat) (r : ObjectRecord), captureRecord n r = ⟨n, r.screenX, r.screenY, r.width, r.height, r.sourceX, r.sourceY,
    r.cls, r.join, r.watched, r.mirror, r.tint⟩) ∧
  (∀ (s : State) (line : Nat), (∀ r ∈ s.table.objects, r.cls ≤ 7) →
      s.selected line = orderCandidates (scanRecords line 0 s.table.objects) ∧
      (∀ n r, (captureRecord n r ∈ s.selected line ∧ s.table.objects[n]? = some r) ↔
        (s.table.objects[n]? = some r ∧ r.state = .shown ∧ r.screenY ≤ line ∧ line < r.screenY + r.height ∧
          ∀ m, m < n → (s.table.objects.getD m .cleared).state ≠ .terminal)) ∧
      (∀ c ∈ s.selected line, ∃ r, s.table.objects[c.object]? = some r ∧ c = captureRecord c.object r) ∧
      (s.selected line).Pairwise (fun a b => b.cls < a.cls ∨ (a.cls = b.cls ∧ a.object < b.object)))

/-! ### Link timing -/

/-- A new leading edge cuts the line in hand: an open claim window closes with its candidates denied, the fetch stops, no
further column and no further announce place comes, and positions count from it; HSYNC begins (R23, R29, R46, R77, R91,
R98, R104). An edge whose decision point has not come is part of the same assertion (log entry 5). That a waiting edge of
PICKTRIG whose column is cut fills the trigger point is the model's choice (log entry 13).
An edge that comes while the station's own mark still stands lets that assertion run to its end first, 2 or 8 pixel times
from its leading edge (R24; the model's choice, log entry 5).
A mark row whose leading edge was not a happening of its own is the leading edge and then the mark (R24; the model's
choice, log entry 5).
A line that runs past its own end, with no leading edge yet, holds nothing further: no frame word, no announce place, no
claim round and no column (R29, R98). -/
def Obligations.LeadingEdgeCutsTheLine : Prop :=
  (∀ s : State, s.resetPin = false →
      (s.link.edgeSeen = true → exec .lmarkLeadingEdge s = .next s) ∧
      (s.link.edgeSeen = false → s.link.lmark = none →
        exec .lmarkLeadingEdge s = .next { s with
          link := { s.link with
            pixelTime := 0, edgeSeen := true, frameDriven := false, ldata := released, ldataJoin := released }
          member := { s.member with announce := none }
          claim := match s.claim.window with
            | none => s.claim
            | some _ => { s.claim with
                window := none
                current := (s.claim.candidates.map Candidate.object).foldl (Shortfall.deny s.link.lineCounter false)
                  s.claim.current }
          lines := { s.lines with fetching := false, column := none }
          picks := { s.picks with
            trigger := s.picks.trigger || s.picks.edgeWaiting, edgeWaiting := false, edgeTaken := false }
          output := { s.output with rgb := .black, hsync := true } })) ∧
  (∀ (s : State) (kind : MarkKind), s.resetPin = false → s.link.edgeSeen = false → s.link.lmark = some kind →
      let ended := s.reach (match kind with | .line => 2 | .frame => 8)
      exec .lmarkLeadingEdge s = exec .lmarkLeadingEdge { ended with link := { ended.link with lmark := none } }) ∧
  (∀ s t : State, s.resetPin = false → s.link.edgeSeen = false → exec .lmarkLeadingEdge s = .next t →
      exec .lineMark s = exec .lineMark t ∧ exec .frameMark s = exec .frameMark t) ∧
  (∀ s : State, s.geometry.linePixels ≤ s.link.pixelTime →
      (∀ others, exec (.frameWord others) s = .next s ∧ exec (.announcePlace others) s = .next s) ∧
      (∀ bids held, exec (.claimRound bids held) s = .next s) ∧
      (∀ rivals held join, exec (.columnResolved rivals held join) s = .next s))

/-- A line mark at a synced station advances the line counter, or leaves it at T − 1 with SLIP; it restarts the silence count
and a running line timer; it opens an active line, the announce window on line A, or a blank line; a detach pending takes
effect (R18, R28, R30, R32, R33, R64). The mark is taken at pixel time 4 of its line (R24); that a position already past it is
kept, and the line timer counts on from there, is the model's choice (log entry 4).
Where the station's own frame assertion stands at the decision point, or stood there and has ended since, the mark is a frame
mark (R24, R31). The announce window of line A is opened by that mark and begins with its frame word; that its listening mark
is set from the own state as the mark leaves it, to follow that state until the window begins (R52), is the model's choice (log
entry 29). -/
def Obligations.LineMarkAdvancesTheCounter : Prop :=
  (∀ s : State, s.resetPin = false → s.link.edgeSeen = true → s.link.lmark = some .frame ∨ s.link.frameDriven = true →
      exec .lineMark s = exec .frameMark s) ∧
  ∀ s : State, s.resetPin = false → s.link.edgeSeen = true → s.link.lmark ≠ some .frame → s.link.frameDriven = false →
    s.link.synced = true →
    let last := s.geometry.totalLines ≤ s.link.lineCounter + 1
    let detaches := s.member.detachPending = true ∧ s.member.own = .member
    ∃ t, exec .lineMark s = .next t ∧
      (last → t.link.lineCounter = s.link.lineCounter ∧ t.port.events.slip = oneMore s.port.events.slip ∧
        t.claim = s.claim ∧ t.lines = s.lines) ∧
      (¬last → t.link.lineCounter = s.link.lineCounter + 1 ∧ t.port.events.slip = s.port.events.slip) ∧
      t.link.frameNumber = s.link.frameNumber ∧ t.link.synced = true ∧ t.link.silenceCount = 0 ∧
      t.link.silencePixels = max 4 s.link.pixelTime ∧
      t.link.edgeSeen = false ∧ t.link.pixelTime = max 4 s.link.pixelTime ∧
      t.link.lineTimer = (if t.member.own.drives then some (max 4 s.link.pixelTime) else none) ∧
      (detaches → t.member.own = .detached ∧ t.port.events.state = oneMore s.port.events.state ∧ t.link.lmark = none) ∧
      (¬detaches → t.member.own = s.member.own ∧ t.port.events.state = s.port.events.state) ∧
      (detaches → t.member = { s.member with
        own := .detached, listenCount := 0, windowWait := 0, admitted := false, detachPending := false
        announce := t.member.announce }) ∧
      (¬detaches → t.member = { s.member with
        announce := if ¬last ∧ s.link.lineCounter + 1 = s.geometry.activeLines then
            some { wordRead := false, listening := decide (s.member.own = .listen), place := 0, heard := [] }
          else s.member.announce }) ∧
      (¬last → s.link.lineCounter + 1 < s.geometry.activeLines →
        t.claim.window = some 0 ∧ t.claim.grants = [] ∧ t.claim.ownGrants = [] ∧ t.lines.buffer = [] ∧
        t.claim.candidates = (s.selected (s.link.lineCounter + 1)).take 16 ∧
        t.claim.current = (((s.selected (s.link.lineCounter + 1)).drop 16).map Candidate.object).foldl
          (Shortfall.deny (s.link.lineCounter + 1) true) s.claim.current) ∧
      (¬last → s.link.lineCounter + 1 = s.geometry.activeLines →
        t.member.announce = some { wordRead := false, listening := decide (t.member.own = .listen), place := 0, heard := [] } ∧
        t.claim = s.claim ∧ t.lines = s.lines) ∧
      (¬last → s.geometry.activeLines < s.link.lineCounter + 1 → t.claim = s.claim ∧ t.lines = s.lines) ∧
      t.claim.last = s.claim.last ∧ t.member.members = s.member.members ∧ t.table = s.table ∧ t.tints = s.tints ∧
      t.output.palette = s.output.palette ∧ t.collisions = s.collisions ∧ t.picks = s.picks ∧ t.surface = s.surface ∧
      t.arbiter = s.arbiter ∧ t.engine = s.engine ∧ t.straps = s.straps ∧ t.port.commands = s.port.commands ∧
      t.port.responses = s.port.responses ∧ t.port.transfer = s.port.transfer

/-- A frame mark sets the line counter to 0, adds 1 to the frame number and makes the station synced, with SLIP where a
synced station stood at another line than T − 1; the pending updates are applied before the list of line 0 is formed, the
shortfall records turn over, and line 0's claim window opens (R12, R18, R34, R70, R83). The mark is taken at pixel time 4 of
its line (R24); that a position already past it is kept, and the line timer counts on from there, is the model's choice (log
entry 4).
A frame mark begins a WAITING command, which presents its first access, or ends at once where it presents none; it does
not touch a command that runs, an IDLE engine or the Draw Queue behind a command that begins; behind one that ends at once
the next is taken (R143, R144, R146). -/
def Obligations.FrameMarkOpensLineZero : Prop :=
  (∀ s : State, s.resetPin = false → s.link.edgeSeen = true →
      let updated := s.table.updates.foldl applyUpdate s.table.objects
      let selected := orderCandidates (scanRecords 0 0 updated)
      let slips := s.link.synced = true ∧ s.link.lineCounter + 1 ≠ s.geometry.totalLines
      ∃ t, exec .frameMark s = .next t ∧
        t.link.lineCounter = 0 ∧ t.link.frameNumber = s.link.frameNumber + 1 ∧ t.link.synced = true ∧
        t.link.silenceCount = 0 ∧ t.link.silencePixels = max 4 s.link.pixelTime ∧
        t.link.edgeSeen = false ∧ t.link.pixelTime = max 4 s.link.pixelTime ∧
        t.link.lineTimer = (if t.member.own.drives then some (max 4 s.link.pixelTime) else none) ∧
        (slips → t.port.events.slip = oneMore s.port.events.slip) ∧ (¬slips → t.port.events.slip = s.port.events.slip) ∧
        t.table = { objects := updated, updates := [] } ∧
        t.claim.window = some 0 ∧ t.claim.grants = [] ∧ t.claim.ownGrants = [] ∧ t.lines.buffer = [] ∧
        t.claim.candidates = selected.take 16 ∧
        t.claim.last = s.claim.current ∧
        t.claim.current = ((selected.drop 16).map Candidate.object).foldl (Shortfall.deny 0 true)
          (.cleared (s.link.frameNumber + 1)) ∧
        (1 ≤ s.claim.current.denied → t.port.events.shortfall = oneMore s.port.events.shortfall) ∧
        (s.claim.current.denied = 0 → t.port.events.shortfall = s.port.events.shortfall) ∧
        t.member.members = s.member.members ∧ t.tints = s.tints ∧ t.output.palette = s.output.palette ∧
        t.collisions = s.collisions ∧ t.picks = s.picks ∧ t.surface = s.surface ∧ t.straps = s.straps ∧
        t.port.commands = s.port.commands ∧ t.port.transfer = s.port.transfer) ∧
  (∀ s : State, s.resetPin = false → s.link.edgeSeen = true →
      ∃ t, exec .frameMark s = .next t ∧
        ((∀ e, s.engine.mode ≠ .waiting e) → t.engine = s.engine ∧ t.port.responses = s.port.responses) ∧
        (∀ e, s.engine.mode = .waiting e → presentsNothing e.cmd = false →
          t.engine = { mode := .running e .none, queue := s.engine.queue } ∧ t.port.responses = s.port.responses) ∧
        (∀ e, s.engine.mode = .waiting e → presentsNothing e.cmd = true → s.engine.queue = [] →
          t.engine = { mode := .idle, queue := [] } ∧ t.port.responses = s.port.responses ++
            [⟨e.tag, drawCode e.cmd, .ok, endState e.cmd { Progress.none with done := pixelCount e.cmd }⟩]) ∧
        (∀ e skipped tail, s.engine.mode = .waiting e → presentsNothing e.cmd = true →
          s.engine.queue = skipped ++ tail → SkipsTo skipped tail →
          t.engine = (s.takesNext skipped tail).engine ∧
          t.port.responses = s.port.responses ++ (e :: skipped).map DrawEntry.endedResponse) ∧
        t.surface = s.surface ∧ t.arbiter = s.arbiter)

/-- What a frame mark does to the own state: the third window wait sends a waiting station to REFUSED before anything else;
else a detach pending makes a member DETACHED, and an admitted station becomes MEMBER (R55, R58, R64). Where the own state
stays, the listen count and both flags are kept, and the Member Table is in any case (R52, R58, R64). -/
def Obligations.FrameMarkChangesTheOwnState : Prop :=
  ∀ s : State, s.resetPin = false → s.link.edgeSeen = true →
    let waits := s.link.synced = true ∧ (s.member.own = .listen ∨ s.member.own = .founding ∨ s.member.own = .joining ∨
      s.member.own = .member)
    let detaches := s.member.detachPending = true ∧ s.member.own = .member
    let admits := s.member.admitted = true ∧ (s.member.own = .founding ∨ s.member.own = .joining)
    ∃ t, exec .frameMark s = .next t ∧
      (waits → 2 ≤ s.member.windowWait → t.member.own = .refused ∧ t.member.windowWait = 0) ∧
      (¬(waits ∧ 2 ≤ s.member.windowWait) → detaches → t.member.own = .detached ∧ t.member.windowWait = 0) ∧
      (¬(waits ∧ 2 ≤ s.member.windowWait) → admits → t.member.own = .member ∧ t.member.windowWait = 0) ∧
      (¬(waits ∧ 2 ≤ s.member.windowWait) → ¬detaches → ¬admits → t.member.own = s.member.own ∧
        t.member.windowWait = (if s.link.synced = true ∧ s.member.own.waits = true then s.member.windowWait + 1
          else s.member.windowWait) ∧ t.member.admitted = s.member.admitted ∧
        t.member = { s.member with windowWait := t.member.windowWait }) ∧
      (t.member.own ≠ s.member.own → t.member = { s.member with
        own := t.member.own, listenCount := 0, windowWait := 0, admitted := false, detachPending := false
        announce := t.member.announce }) ∧
      (t.member.own ≠ s.member.own → t.port.events.state = oneMore s.port.events.state ∧ t.member.admitted = false ∧
        t.member.detachPending = false ∧ t.member.listenCount = 0) ∧
      (¬(waits ∧ 2 ≤ s.member.windowWait) → t.member.own = s.member.own →
        t.port.events.state = s.port.events.state)

/-- The line timer running out drives a frame mark with the counter at T − 1 and a line mark with any other value, at the
line length from the last mark's leading edge, where the timer stands as the mark is driven (R30, R31). Where another
station's edge has come first, a station whose timer stands at the line length at that edge's pixel time drives its mark with
the others, and one whose timer has not run out by then does not drive (R31).
The silence count reaching 2 × T makes the station unsynced with counter and frame number kept; a station in LISTEN
founds: FOUNDING, a frame mark driven at once, the line timer from its leading edge (R32, R54). The grant list, the own grants,
the line buffer, the record of the last frame and the trigger point are kept (R79, R81, R86, R125). That the line in hand is
then over, an open claim window with its denials, and that a waiting edge of PICKTRIG then fills the trigger point, are the
model's readings (log entries 13 and 19).
Between a leading edge and its decision point the count may still reach 2 × T, and a station in LISTEN then drives its frame
mark into the assertion that stands; a count that would reach it after that point does not come to it (R54). At the very
pixel time of the decision point the mark comes first, by the model's choice (log entry 28). Both rows act at whatever value
their clock holds and let the pixel times it lacks pass, by the model's choice (log entry 4). -/
def Obligations.LinkClocksRunOut : Prop :=
  (∀ (s : State) (time : Nat), s.resetPin = false → s.link.lineTimer = some time → s.link.edgeSeen = false →
      ∃ t, exec .lineTimerRunsOut s = .next t ∧
        t.link.lmark = some (if s.link.lineCounter + 1 = s.geometry.totalLines then .frame else .line) ∧
        t.link.frameDriven = decide (s.link.lineCounter + 1 = s.geometry.totalLines) ∧
        t.link.lineTimer = some s.geometry.linePixels ∧ t.link.edgeSeen = true ∧ t.link.pixelTime = 0 ∧ t.output.hsync = true ∧
        t.link.lineCounter = s.link.lineCounter ∧ t.link.frameNumber = s.link.frameNumber ∧
        t.link.synced = s.link.synced ∧ t.claim.window = none ∧ t.lines.fetching = false ∧ t.lines.column = none ∧
        t.claim = (match s.claim.window with
            | none => s.claim
            | some _ => { s.claim with
                window := none
                current := (s.claim.candidates.map Candidate.object).foldl (Shortfall.deny s.link.lineCounter false)
                  s.claim.current }) ∧
          t.lines = { s.lines with fetching := false, column := none } ∧
          t.picks = { s.picks with
            trigger := s.picks.trigger || s.picks.edgeWaiting, edgeWaiting := false, edgeTaken := false } ∧
        t.member = { s.member with announce := none } ∧ t.table = s.table ∧ t.tints = s.tints ∧ t.surface = s.surface ∧
        t.engine = s.engine ∧ t.port = s.port ∧ t.collisions = s.collisions ∧ t.claim.grants = s.claim.grants ∧
        t.output.palette = s.output.palette ∧ t.picks.points = s.picks.points ∧ t.picks.queue = s.picks.queue) ∧
  (∀ (s : State) (time : Nat), s.resetPin = false → s.link.lineTimer = some time → s.link.edgeSeen = true →
      (s.link.pixelTime ≠ 0 ∨ time ≠ s.geometry.linePixels → exec .lineTimerRunsOut s = .next s) ∧
      (s.link.pixelTime = 0 → time = s.geometry.linePixels → ∃ t, exec .lineTimerRunsOut s = .next t ∧
        t.link.lmark = some (if s.link.lineCounter + 1 = s.geometry.totalLines then .frame else .line) ∧
        t.link.frameDriven = decide (s.link.lineCounter + 1 = s.geometry.totalLines) ∧
        t.link.lineTimer = some time ∧ t.link.edgeSeen = true ∧ t.link.pixelTime = 0 ∧
        t.link.lineCounter = s.link.lineCounter ∧ t.link.frameNumber = s.link.frameNumber ∧
        t.link.synced = s.link.synced ∧ t.output.hsync = s.output.hsync ∧ t.output.palette = s.output.palette ∧
        t.member = s.member ∧ t.claim = s.claim ∧ t.lines = s.lines ∧ t.table = s.table ∧ t.tints = s.tints ∧
        t.surface = s.surface ∧ t.engine = s.engine ∧ t.port = s.port ∧ t.collisions = s.collisions ∧
        t.picks = s.picks)) ∧
  (∀ s : State, s.resetPin = false → s.link.lineTimer = none → s.link.edgeSeen = false →
      ∃ t, exec .silenceCountLimit s = .next t ∧ t.link.synced = false ∧
        t.link.silenceCount = 2 * s.geometry.totalLines ∧ t.link.lineCounter = s.link.lineCounter ∧
        t.link.frameNumber = s.link.frameNumber ∧
        (s.member.own = .listen → t.member.own = .founding ∧ t.member.listenCount = 0 ∧ t.link.lmark = some .frame ∧
          t.link.edgeSeen = true ∧ t.link.pixelTime = 0 ∧ t.link.lineTimer = some 0 ∧
          t.port.events = { s.port.events with state := oneMore s.port.events.state }) ∧
        (s.member.own ≠ .listen → t.member.own = s.member.own ∧ t.link.lineTimer = none ∧ t.link.edgeSeen = false ∧
          t.port = s.port) ∧
        (s.link.synced = true → t.claim.window = none ∧ t.lines.fetching = false ∧ t.lines.column = none ∧
          t.member.announce = none) ∧
        (s.link.synced = true ∨ s.member.own = .listen → t.claim = (match s.claim.window with
            | none => s.claim
            | some _ => { s.claim with
                window := none
                current := (s.claim.candidates.map Candidate.object).foldl (Shortfall.deny s.link.lineCounter false)
                  s.claim.current }) ∧
          t.lines = { s.lines with fetching := false, column := none } ∧
          t.picks = { s.picks with
            trigger := s.picks.trigger || s.picks.edgeWaiting, edgeWaiting := false, edgeTaken := false }) ∧
        (s.link.synced = false → s.member.own ≠ .listen → t.claim = s.claim ∧ t.lines = s.lines ∧ t.picks = s.picks) ∧
        (s.member.own = .listen → t.member = { s.member with
          own := .founding, listenCount := 0, windowWait := 0, admitted := false, detachPending := false
          announce := t.member.announce }) ∧
        (s.member.own ≠ .listen → t.member = { s.member with announce := t.member.announce }) ∧
        t.member.members = s.member.members ∧ t.table = s.table ∧ t.tints = s.tints ∧ t.surface = s.surface ∧
        t.engine = s.engine ∧ t.collisions = s.collisions ∧ t.picks.points = s.picks.points ∧
        t.picks.queue = s.picks.queue ∧ t.output.palette = s.output.palette) ∧
  (∀ s : State, s.resetPin = false → s.link.lineTimer = none → s.link.edgeSeen = true →
      let left := (2 * s.geometry.totalLines - s.link.silenceCount) * s.geometry.linePixels - s.link.silencePixels
      (4 ≤ s.link.pixelTime + left → exec .silenceCountLimit s = .next s) ∧
      (s.link.pixelTime + left < 4 → ∃ t, exec .silenceCountLimit s = .next t ∧ t.link.synced = false ∧
        t.link.silenceCount = 2 * s.geometry.totalLines ∧ t.link.lineCounter = s.link.lineCounter ∧
        t.link.frameNumber = s.link.frameNumber ∧ t.link.edgeSeen = true ∧
        t.link.pixelTime = s.link.pixelTime + left ∧
        (s.member.own = .listen → t.member.own = .founding ∧ t.member.listenCount = 0 ∧ t.link.lmark = some .frame ∧
          t.link.lineTimer = some t.link.pixelTime ∧
          t.port.events = { s.port.events with state := oneMore s.port.events.state }) ∧
        (s.member.own ≠ .listen → t.member.own = s.member.own ∧ t.link.lineTimer = none ∧ t.port = s.port) ∧
        (s.link.synced = true → t.claim = (match s.claim.window with
            | none => s.claim
            | some _ => { s.claim with
                window := none
                current := (s.claim.candidates.map Candidate.object).foldl (Shortfall.deny s.link.lineCounter false)
                  s.claim.current }) ∧
          t.lines = { s.lines with fetching := false, column := none } ∧
          t.picks = { s.picks with
            trigger := s.picks.trigger || s.picks.edgeWaiting, edgeWaiting := false, edgeTaken := false } ∧ t.member.announce = none) ∧
        (s.link.synced = false → t.claim = s.claim ∧ t.lines = s.lines ∧ t.picks = s.picks) ∧
        (s.member.own = .listen → t.member = { s.member with
          own := .founding, listenCount := 0, windowWait := 0, admitted := false, detachPending := false
          announce := t.member.announce }) ∧
        (s.member.own ≠ .listen → t.member = { s.member with announce := t.member.announce }) ∧
        t.member.members = s.member.members ∧ t.table = s.table ∧ t.tints = s.tints ∧ t.surface = s.surface ∧
        t.engine = s.engine ∧ t.collisions = s.collisions ∧ t.picks.points = s.picks.points ∧
        t.picks.queue = s.picks.queue ∧ t.output.palette = s.output.palette))

/-- The frame word: a driving station drives its number on lines 0 … 7 and raises SLIP where another value is read; every
station that holds the window adopts the value read (R25, R36). It ends with pixel time 11 of the line (R28); that a position
already past it is kept is the model's choice (log entry 4). The driving stations are those in FOUNDING, JOINING and MEMBER
(R41). -/
def Obligations.FrameWordIsAdopted : Prop :=
  (∀ own : OwnState, own.drives = true ↔ own = .founding ∨ own = .joining ∨ own = .member) ∧
  ∀ (s : State) (w : AnnounceWindow) (others : Lines), s.resetPin = false → s.link.synced = true →
    s.link.pixelTime < s.geometry.linePixels → s.member.announce = some w → w.wordRead = false →
    let driven : Lines := if s.member.own.drives then 0xFF#8 ++ s.link.frameNumber else 0xFFFF#16
    let read : Byte := (others &&& driven).extractLsb' 0 8
    ∃ t, exec (.frameWord others) s = .next t ∧
      t.link.frameNumber = read ∧ t.link.ldata = driven ∧ t.link.pixelTime = max 11 s.link.pixelTime ∧
      (s.member.own.drives = true → read ≠ s.link.frameNumber →
        t.port.events = { s.port.events with slip := oneMore s.port.events.slip }) ∧
      (s.member.own.drives = false ∨ read = s.link.frameNumber → t.port.events = s.port.events) ∧
      t.member = { s.member with announce := some { w with wordRead := true } } ∧
      t.link.lineCounter = s.link.lineCounter ∧ t.link.synced = true ∧ t.table = s.table ∧ t.tints = s.tints ∧
      t.claim = s.claim ∧ t.lines = s.lines ∧ t.surface = s.surface ∧ t.engine = s.engine ∧
      t.collisions = s.collisions ∧ t.picks = s.picks ∧ t.port.responses = s.port.responses ∧
      t.port.commands = s.port.commands

/-! ### Membership -/

/-- A place that the station does not drive: heard or missed, its Member Table entry changes as R49 and R50 give, and MEMBERS is
raised where it becomes present or absent; before place 7 the window goes on, and place 7 completes it (R46, R49, R50, R55).
At a station in neither LISTEN nor MEMBER the rest of the Membership Unit, the admitted flag among it, stays as it was (R58).
Place n ends with pixel time 15 + 4n of the line (R28); that a position already past it is kept is the model's choice (log
entry 4). -/
def Obligations.OtherPlaceIsTaken : Prop :=
  (∀ (s : State) (w : AnnounceWindow) (others : Lines) (e : MemberEntry), s.resetPin = false → s.link.synced = true →
    s.link.pixelTime < s.geometry.linePixels → s.member.announce = some w → w.wordRead = true → w.place < 7 → w.place < s.member.members.length →
    s.member.own.drives = false ∨ w.place ≠ s.straps.station.toNat → s.member.members.getD w.place .absent = e →
    let heard := others.extractLsb' 0 8 ≠ 0xFF#8
    ∃ t new, exec (.announcePlace others) s = .next t ∧
      (heard → new = { present := true, code := others.extractLsb' 0 8, joining := others.getLsbD 8,
                       nonce := others.extractLsb' 9 7, missed := 0,
                       framePresent := if e.present then e.framePresent else s.link.frameNumber }) ∧
      (¬heard → e.present = false → new = e) ∧
      (¬heard → e.present = true → e.missed < 3 → new = { e with missed := e.missed + 1 }) ∧
      (¬heard → e.present = true → 3 ≤ e.missed → new = { e with present := false, missed := 0 }) ∧
      t.member = { s.member with
        members := s.member.members.set w.place new
        announce := some { w with place := w.place + 1
                                  heard := if others.extractLsb' 0 8 ≠ 0xFF#8 then w.heard ++ [w.place] else w.heard } } ∧
      t.link.pixelTime = max (15 + 4 * w.place) s.link.pixelTime ∧
      t.link.lineCounter = s.link.lineCounter ∧ t.link.synced = true ∧
      (new.present ≠ e.present → t.port.events = { s.port.events with members := oneMore s.port.events.members }) ∧
      (new.present = e.present → t.port.events = s.port.events) ∧
      t.link.ldata = 0xFFFF#16 ∧ t.link.frameNumber = s.link.frameNumber ∧ t.table = s.table ∧ t.claim = s.claim ∧
      t.surface = s.surface ∧ t.engine = s.engine ∧ t.picks = s.picks ∧ t.collisions = s.collisions) ∧
  (∀ (s : State) (w : AnnounceWindow) (others : Lines) (e : MemberEntry), s.resetPin = false → s.link.synced = true →
    s.link.pixelTime < s.geometry.linePixels → s.member.announce = some w → w.wordRead = true → w.place = 7 → 7 < s.member.members.length →
    s.member.own.drives = false ∨ s.straps.station.toNat ≠ 7 → s.member.members.getD 7 .absent = e →
    let heard := others.extractLsb' 0 8 ≠ 0xFF#8
    ∃ t new, exec (.announcePlace others) s = .next t ∧
      (heard → new = { present := true, code := others.extractLsb' 0 8, joining := others.getLsbD 8,
                       nonce := others.extractLsb' 9 7, missed := 0,
                       framePresent := if e.present then e.framePresent else s.link.frameNumber }) ∧
      (¬heard → e.present = false → new = e) ∧
      (¬heard → e.present = true → e.missed < 3 → new = { e with missed := e.missed + 1 }) ∧
      (¬heard → e.present = true → 3 ≤ e.missed → new = { e with present := false, missed := 0 }) ∧
      t.member.members = s.member.members.set 7 new ∧ t.member.announce = none ∧ t.member.windowWait = 0 ∧
      t.link.pixelTime = max 43 s.link.pixelTime ∧
      t.member.nonceDraws = s.member.nonceDraws ∧
      (s.member.own ≠ .listen → s.member.own ≠ .member → t.member = { s.member with
        members := s.member.members.set 7 new, announce := none, windowWait := 0 }) ∧
      (t.member.own = s.member.own → t.member = { s.member with
        members := s.member.members.set 7 new, announce := none, windowWait := 0
        listenCount := if s.member.own = .listen then t.member.listenCount else s.member.listenCount }) ∧
      t.link.lineCounter = s.link.lineCounter ∧ t.link.synced = true ∧
      (new.present ≠ e.present → t.port.events.members = oneMore s.port.events.members) ∧
      (new.present = e.present → t.port.events.members = s.port.events.members) ∧
      t.link.ldata = 0xFFFF#16 ∧ t.link.frameNumber = s.link.frameNumber ∧ t.table = s.table ∧ t.claim = s.claim ∧
      t.surface = s.surface ∧ t.engine = s.engine ∧ t.picks = s.picks ∧ t.collisions = s.collisions)

/-- The own place of a driving station: it drives its agreement code, its join flag and a fresh nonce, and compares all sixteen
lines; a clean readback sets the admitted flag in FOUNDING and JOINING, and any difference sends it to CONFLICT; its Member
Table takes its own announce like any other, with MEMBERS where the entry becomes present; the place of station 7 completes the
window; the nonce is a free value (log entry 7) (R44, R45, R47, R49, R55, R58). The place ends with pixel time 15 + 4n of the
line (R28); that a position already past it is kept is the model's choice (log entry 4). -/
def Obligations.OwnPlaceIsAnnouncedAndCompared : Prop :=
  (∀ (s : State) (w : AnnounceWindow) (others : Lines), s.resetPin = false → s.link.synced = true →
    s.link.pixelTime < s.geometry.linePixels → s.member.announce = some w → w.wordRead = true → w.place < 7 → w.place = s.straps.station.toNat →
    s.member.own.drives = true →
    let driven : Lines := (Config.nonceSample s.member.nonceDraws ++ BitVec.ofBool (decide (s.member.own ≠ .member))) ++
      BitVec.ofNat 8 (0x50 + s.straps.preset.toNat)
    ∃ t, exec (.announcePlace others) s = .next t ∧ t.member.nonceDraws = s.member.nonceDraws + 1 ∧
      (others &&& driven = driven → t.member.own = s.member.own ∧ t.link.ldata = driven ∧
        t.port.events.state = s.port.events.state ∧
        t.member.admitted = (if s.member.own = .member then s.member.admitted else true)) ∧
      (others &&& driven ≠ driven → t.member.own = .conflict ∧ t.link.ldata = released ∧ t.link.lineTimer = none ∧
        t.port.events.state = oneMore s.port.events.state ∧ t.member.admitted = false ∧
        t.member.detachPending = false) ∧
      (w.place < s.member.members.length → (t.member.members.getD w.place .absent).present = true ∧
        (t.member.members.getD w.place .absent).code = (others &&& driven).extractLsb' 0 8 ∧
        (t.member.members.getD w.place .absent).missed = 0) ∧
      (∀ n, n ≠ w.place → t.member.members.getD n .absent = s.member.members.getD n .absent) ∧
      (let read := others &&& driven
       let old := s.member.members.getD w.place .absent
       t.member.members = s.member.members.set w.place
          { present := true, code := read.extractLsb' 0 8, joining := read.getLsbD 8, nonce := read.extractLsb' 9 7,
            missed := 0, framePresent := if old.present then old.framePresent else s.link.frameNumber } ∧
        t.port.events.members = (if old.present then s.port.events.members else oneMore s.port.events.members)) ∧
      t.link.pixelTime = max (15 + 4 * w.place) s.link.pixelTime ∧
      t.link.lineCounter = s.link.lineCounter ∧ t.link.frameNumber = s.link.frameNumber ∧ t.link.synced = true ∧
      (others &&& driven = driven → t.member = { s.member with
        admitted := t.member.admitted, members := t.member.members, announce := t.member.announce
        nonceDraws := s.member.nonceDraws + 1 }) ∧
      (others &&& driven ≠ driven → t.member = { s.member with
        own := .conflict, listenCount := 0, windowWait := 0, admitted := false, detachPending := false
        members := t.member.members, announce := t.member.announce, nonceDraws := s.member.nonceDraws + 1 }) ∧
      t.member.announce.map AnnounceWindow.heard = some (w.heard ++ [w.place]) ∧
      t.member.announce.map AnnounceWindow.place = some (w.place + 1) ∧ t.table = s.table ∧ t.claim = s.claim ∧
      t.surface = s.surface ∧ t.engine = s.engine) ∧
  (∀ (s : State) (w : AnnounceWindow) (others : Lines), s.resetPin = false → s.link.synced = true →
    s.link.pixelTime < s.geometry.linePixels → s.member.announce = some w → w.wordRead = true → w.place = 7 → s.straps.station.toNat = 7 →
    s.member.own.drives = true →
    let driven : Lines := (Config.nonceSample s.member.nonceDraws ++ BitVec.ofBool (decide (s.member.own ≠ .member))) ++
      BitVec.ofNat 8 (0x50 + s.straps.preset.toNat)
    let read := others &&& driven
    let old := s.member.members.getD 7 .absent
    ∃ t, exec (.announcePlace others) s = .next t ∧ t.member.nonceDraws = s.member.nonceDraws + 1 ∧
      t.member.announce = none ∧ t.member.windowWait = 0 ∧
      (read = driven → s.member.own ≠ .member → t.member.own = s.member.own ∧ t.link.ldata = driven ∧
        t.member.admitted = true ∧ t.port.events.state = s.port.events.state) ∧
      (read = driven → s.member.own = .member → t.member.own = .member → t.link.ldata = driven ∧
        t.member.admitted = s.member.admitted ∧ t.port.events.state = s.port.events.state) ∧
      (read ≠ driven → t.member.own = .conflict ∧ t.link.ldata = released ∧ t.link.lineTimer = none ∧
        t.port.events.state = oneMore s.port.events.state ∧ t.member.admitted = false ∧
        t.member.detachPending = false) ∧
      t.member.members = s.member.members.set 7
        { present := true, code := read.extractLsb' 0 8, joining := read.getLsbD 8, nonce := read.extractLsb' 9 7,
          missed := 0, framePresent := if old.present then old.framePresent else s.link.frameNumber } ∧
      t.port.events.members = (if old.present then s.port.events.members else oneMore s.port.events.members) ∧
      t.link.pixelTime = max 43 s.link.pixelTime ∧
      t.link.lineCounter = s.link.lineCounter ∧ t.link.frameNumber = s.link.frameNumber ∧ t.link.synced = true ∧
      (t.member.own = s.member.own → t.member = { s.member with
        admitted := t.member.admitted, members := t.member.members, announce := none, windowWait := 0
        nonceDraws := s.member.nonceDraws + 1 }) ∧
      t.table = s.table ∧ t.claim = s.claim ∧ t.surface = s.surface ∧ t.engine = s.engine)

/-- Place 7 completes the window: the window wait count is 0; the second complete window of a stay in LISTEN brings the join
decision by its four tests in order, and the change of state raises STATE once (R43, R52, R53, R55). A window in LISTEN that did
not begin in the present stay leaves the listen count and the own state as they were (R52; when a window begins, and that a
change of state ends its counting, are the model's readings, log entries 23 and 29).
The agreement test: a member that completes a window goes to REFUSED, raising STATE once, exactly where a present entry numbered
below its own holds another agreement code (R43, R61). -/
def Obligations.CompleteWindowDecides : Prop :=
  (∀ (s : State) (w : AnnounceWindow) (others : Lines), s.resetPin = false → s.link.synced = true →
      s.link.pixelTime < s.geometry.linePixels → s.member.announce = some w → w.wordRead = true → w.place = 7 → s.member.own = .listen → w.listening = true →
      let heard := if others.extractLsb' 0 8 ≠ 0xFF#8 then w.heard ++ [7] else w.heard
      let own : Byte := BitVec.ofNat 8 (0x50 + s.straps.preset.toNat)
      ∃ t, exec (.announcePlace others) s = .next t ∧ t.member.announce = none ∧ t.member.windowWait = 0 ∧
        (s.member.listenCount = 0 → t.member.own = .listen ∧ t.member.listenCount = 1 ∧
          t.port.events.state = s.port.events.state) ∧
        (1 ≤ s.member.listenCount → t.member.listenCount = 0 ∧ t.port.events.state = oneMore s.port.events.state ∧
          (s.straps.station.toNat ∈ heard → t.member.own = .conflict) ∧
          (s.straps.station.toNat ∉ heard → (∃ e ∈ t.member.members, e.present = true ∧ e.code ≠ own) →
            t.member.own = .refused) ∧
          (s.straps.station.toNat ∉ heard → (∀ e ∈ t.member.members, e.present = true → e.code = own) → heard = [] →
            t.member.own = .refused) ∧
          (s.straps.station.toNat ∉ heard → (∀ e ∈ t.member.members, e.present = true → e.code = own) → heard ≠ [] →
            t.member.own = .joining ∧ t.link.lineTimer.isSome = true))) ∧
  (∀ (s : State) (w : AnnounceWindow) (others : Lines), s.resetPin = false → s.link.synced = true →
      s.link.pixelTime < s.geometry.linePixels → s.member.announce = some w → w.wordRead = true → w.place = 7 → s.member.own = .listen → w.listening = false →
      ∃ t, exec (.announcePlace others) s = .next t ∧ t.member.announce = none ∧ t.member.windowWait = 0 ∧
        t.member.own = .listen ∧ t.member.listenCount = s.member.listenCount ∧
        t.port.events.state = s.port.events.state) ∧
  (∀ (s : State) (w : AnnounceWindow) (others : Lines), s.resetPin = false → s.link.synced = true →
      s.link.pixelTime < s.geometry.linePixels → s.member.announce = some w → w.wordRead = true → w.place = 7 → s.member.own = .member →
      let driven : Lines := (Config.nonceSample s.member.nonceDraws ++ 0#1) ++ BitVec.ofNat 8 (0x50 + s.straps.preset.toNat)
      s.straps.station.toNat ≠ 7 ∨ others &&& driven = driven →
      ∃ t, exec (.announcePlace others) s = .next t ∧ t.member.announce = none ∧ t.member.windowWait = 0 ∧
        t.member.own = (if (t.member.members.take s.straps.station.toNat).any
            (fun e => e.present && e.code != BitVec.ofNat 8 (0x50 + s.straps.preset.toNat)) then .refused else .member) ∧
        t.port.events.state =
          (if t.member.own = .refused then oneMore s.port.events.state else s.port.events.state))

/-- READ MEMBERS returns the eight entries, four bytes each, in the image of Table 3-4, and changes nothing (R51). -/
def Obligations.ReadMembersReturnsTheTable : Prop :=
  ∀ (s : State) (tag : Byte) (rest : List Entry), s.Takes (.ordinary 0x61#8 tag []) rest →
    exec .readMembers s = .next (s.answered (.ordinary 0x61#8 tag []) rest .ok
      (s.member.members.flatMap fun e =>
        [BitVec.ofNat 8 (e.present.toNat + 2 * e.joining.toNat + 4 * e.missed), e.code,
          (0#1 ++ e.nonce : BitVec 8), e.framePresent]))

/-- DETACH: in MEMBER the detach pending flag is set; in DETACHED it is answered WRONG_STATE; in every other state the station
is DETACHED at once, raising STATE and releasing what it drives (R43, R63). That an own frame assertion counts as having stood
past the decision point only where it is released after pixel time 4 (log entry 5), and that a window in progress stops
counting toward the listen count (log entry 23), are the model's choices. -/
def Obligations.DetachActsByTheOwnState : Prop :=
  ∀ (s : State) (tag : Byte) (rest : List Entry), s.Takes (.ordinary 0x62#8 tag []) rest →
    (s.member.own = .member → exec .detach s = .next { s.answered (.ordinary 0x62#8 tag []) rest .ok [] with
      member := { s.member with detachPending := true } }) ∧
    (s.member.own = .detached →
      exec .detach s = .next (s.answered (.ordinary 0x62#8 tag []) rest .wrongState [])) ∧
    (s.member.own ≠ .member → s.member.own ≠ .detached → exec .detach s = .next { s with
      port := { s.port with
        commands := rest
        events := { s.port.events with state := oneMore s.port.events.state }
        responses := s.port.responses ++ [⟨tag, 0x62#8, .ok, []⟩] }
      link := { s.link with
        lineTimer := none, lmark := none, frameDriven := s.link.frameDriven && decide (4 < s.link.pixelTime)
        ldata := released, ldataJoin := released }
      member := { s.member with
        own := .detached, listenCount := 0, windowWait := 0, admitted := false, detachPending := false
        announce := s.member.announce.map fun w => { w with listening := false } } })

/-- REJOIN: from DETACHED, CONFLICT and REFUSED the station enters LISTEN at once, with sync, counters and Member Table kept,
and the window held counts toward the listen count where its frame word is still to begin at pixel time 8 of line A, and no
longer where it is in progress; where its silence count stands at 2 × T it has lost its
sync, holds nothing of the line (log entry 19), and founds; in any other state it is answered WRONG_STATE (R32, R52, R54,
R65). That a window begins with the first pixel time of its frame word is the model's reading (log entries 23 and 29). -/
def Obligations.RejoinEntersListen : Prop :=
  ∀ (s : State) (tag : Byte) (rest : List Entry), s.Takes (.ordinary 0x63#8 tag []) rest →
    (s.member.own = .listen ∨ s.member.own = .founding ∨ s.member.own = .joining ∨ s.member.own = .member →
      exec .rejoin s = .next (s.answered (.ordinary 0x63#8 tag []) rest .wrongState [])) ∧
    (s.member.own = .detached ∨ s.member.own = .conflict ∨ s.member.own = .refused →
      ∃ t, exec .rejoin s = .next t ∧ t.member.listenCount = 0 ∧ t.member.windowWait = 0 ∧
        t.member.members = s.member.members ∧
        t.link.lineCounter = s.link.lineCounter ∧ t.link.frameNumber = s.link.frameNumber ∧
        t.link.silenceCount = s.link.silenceCount ∧ t.port.commands = rest ∧
        t.port.responses = s.port.responses ++ [⟨tag, 0x63#8, .ok, []⟩] ∧
        t.table = s.table ∧ t.tints = s.tints ∧ t.surface = s.surface ∧ t.engine = s.engine ∧
        t.output.palette = s.output.palette ∧ t.collisions = s.collisions ∧ t.picks.points = s.picks.points ∧
        t.picks.queue = s.picks.queue ∧
        (s.link.silenceCount < 2 * s.geometry.totalLines → t.member.own = .listen ∧ t.claim = s.claim ∧
          t.lines = s.lines ∧ t.link.lineTimer = none ∧ t.link.synced = s.link.synced ∧
          t.member.announce = s.member.announce.map (fun w => { w with
            listening := !w.wordRead && decide (s.link.pixelTime < 8) }) ∧
          t.port.events = { s.port.events with state := oneMore s.port.events.state }) ∧
        (2 * s.geometry.totalLines ≤ s.link.silenceCount → t.member.own = .founding ∧ t.link.lmark = some .frame ∧
          t.link.edgeSeen = true ∧ t.link.synced = false ∧
          (s.link.synced = true → t.claim.window = none ∧ t.lines.fetching = false ∧ t.lines.column = none ∧
            t.member.announce = none) ∧
          t.port.events = { s.port.events with state := oneMore (oneMore s.port.events.state) }))

/-- The changes of the own state are those of Table 3-2, each by its cause: the resets and REJOIN to LISTEN; the silence timeout
to FOUNDING; the join decision at the end of a second listen window to JOINING, CONFLICT or REFUSED; a frame mark taken while
admitted to MEMBER; the own place, or a claim round bid for, to CONFLICT; the window wait at a frame mark, or the agreement
test at the end of a window, to REFUSED; DETACH when taken, or at the next mark of a member whose detach is pending. A REJOIN
on a silent link enters LISTEN and founds in one happening (R41, R54). Which windows count as listened to is log entries 23 and
29, and when an own frame assertion makes a line mark row a frame mark is log entry 5. -/
def Obligations.OwnStateChangesAsTabulated : Prop :=
  ∀ (c : Instr) (s t : State), exec c s = .next t →
    let frameMark := c = .frameMark ∨ (c = .lineMark ∧ s.link.edgeSeen = true ∧
      (s.link.lmark = some .frame ∨ s.link.frameDriven = true))
    let windowEnds := ∃ others w, c = .announcePlace others ∧ s.member.announce = some w ∧ w.wordRead = true ∧
      7 ≤ w.place ∧ s.link.synced = true
    let joinDecision := s.member.own = .listen ∧ 1 ≤ s.member.listenCount ∧ windowEnds ∧
      ∀ w, s.member.announce = some w → w.listening = true
    t.member.own = s.member.own ∨
    (t.member.own = .listen ∧ (c = .resetPinAsserted ∨ (∃ station preset video, c = .resetPinReleased station preset video) ∨
      (∃ inService, c = .restart inService) ∨
      (∃ bytes inService, c = .commandFrameReceived bytes inService ∧ receive bytes = .restart) ∨
      (c = .rejoin ∧ (s.member.own = .detached ∨ s.member.own = .conflict ∨ s.member.own = .refused)))) ∨
    (t.member.own = .founding ∧ 2 * s.geometry.totalLines ≤ t.link.silenceCount ∧
      ((c = .silenceCountLimit ∧ s.member.own = .listen) ∨
        (c = .rejoin ∧ (s.member.own = .detached ∨ s.member.own = .conflict ∨ s.member.own = .refused)))) ∨
    (t.member.own = .joining ∧ joinDecision) ∨
    (t.member.own = .member ∧ frameMark ∧ s.member.admitted = true ∧
      (s.member.own = .founding ∨ s.member.own = .joining)) ∨
    (t.member.own = .conflict ∧ (joinDecision ∨
      ((∃ others w, c = .announcePlace others ∧ s.member.announce = some w ∧ w.wordRead = true ∧
          w.place = s.straps.station.toNat) ∧
        (s.member.own = .founding ∨ s.member.own = .joining ∨ s.member.own = .member)) ∨
      ((∃ bids held r, c = .claimRound bids held ∧ s.claim.window = some r) ∧ s.member.own = .member ∧
        s.claim.candidates ≠ []))) ∨
    (t.member.own = .refused ∧ (joinDecision ∨ (windowEnds ∧ s.member.own = .member) ∨
      (frameMark ∧ s.link.synced = true ∧ 2 ≤ s.member.windowWait ∧
        (s.member.own = .listen ∨ s.member.own = .founding ∨ s.member.own = .joining ∨ s.member.own = .member)))) ∨
    (t.member.own = .detached ∧ ((c = .detach ∧ s.member.own ≠ .member ∧ s.member.own ≠ .detached) ∨
      ((c = .lineMark ∨ c = .frameMark) ∧ s.member.own = .member ∧ s.member.detachPending = true)))

/-! ### Slot claims -/

/-- The key of a candidate: class × 8 plus the rotated rank 7 − ((station − frame) mod 8), with the frame number the station
holds; it names its class, and under one frame number distinct stations hold distinct ranks (R66, R67). -/
def Obligations.KeyCombinesClassAndRank : Prop :=
  (∀ (s : State) (c : Candidate), c.cls ≤ 7 →
    (s.keyFor c : Int) = (c.cls : Int) * 8 +
      (7 - ((s.straps.station.toNat : Int) - (s.link.frameNumber.toNat : Int)) % 8) ∧
    s.keyFor c ≤ 63 ∧ s.keyFor c / 8 = c.cls) ∧
  (∀ a b frame : Nat, a < 8 → b < 8 → rotatedRank a frame = rotatedRank b frame → a = b) ∧
  (∀ a frame : Nat, a < 8 → (rotatedRank a frame = 7 ↔ a = frame % 8))

/-- A claim round settled among the stations that drive it: the key read is the highest driven, the survivors are those that
drove it, and station and object are the bitwise OR of the survivors' (R68, R69). Each driver is given as (key, station,
object). The same holds of a round in which this station drives nothing, and a round that nothing drives is blank.
A bid is driven, and a round read, as the complement of the fields of Table 4-2, with presence on line 15 (R68, R69). LDATA
delivers the bitwise AND of all that is driven (R25), and the key lines settle one at a time from line 14 down to line 9: a
driver that leaves a line released and finds it reading 0 withdraws (R69). What else the link carries may differ from line to
line and at the reading, so that partly formed values come about (R78); that each line settles with one value of all else, and
the round is read in another, is the model's choice (log entry 15). -/
def Obligations.RoundSettlesOnTheHighestKey : Prop :=
  (∀ key station object : Nat, key < 64 → station < 8 → object < 64 →
    (claimWord key station object).toNat + (32768 + 512 * key + 64 * station + object) = 65535) ∧
  (∀ word : Lines, claimObject word = (65535 - word.toNat) % 64 ∧ claimStation word = (65535 - word.toNat) / 64 % 8 ∧
    claimKey word = (65535 - word.toNat) / 512 % 64 ∧ (isBlank word = true ↔ 32768 ≤ word.toNat)) ∧
  (∀ (held : Carried) (c : Contest), c.bus held.reading = (c.own.toList ++ c.rivals).foldl (· &&& ·) held.reading ∧
    Contest.settle held keyLines c = [(14, 0), (13, 1), (12, 2), (11, 3), (10, 4), (9, 5)].foldl
      (fun (c : Contest) (line, k) =>
      let stays := fun w : Lines => !w.getLsbD line || (c.bus (held.settling.getD k held.reading)).getLsbD line
      { own := c.own.filter stays, rivals := c.rivals.filter stays }) c) ∧
  (∀ (own : Nat × Nat × Nat) (others : List (Nat × Nat × Nat)),
    (∀ b ∈ own :: others, b.1 < 64 ∧ b.2.1 < 8 ∧ b.2.2 < 64) →
    let settled := Contest.settle ⟨[], released⟩ keyLines
      { own := some (claimWord own.1 own.2.1 own.2.2), rivals := others.map fun b => claimWord b.1 b.2.1 b.2.2 }
    let word := settled.bus released
    let survivors := (own :: others).filter fun b => b.1 == claimKey word
    isBlank word = false ∧ (∀ b ∈ own :: others, b.1 ≤ claimKey word) ∧ survivors ≠ [] ∧
    claimStation word = (survivors.map fun b => b.2.1).foldl (· ||| ·) 0 ∧
    claimObject word = (survivors.map fun b => b.2.2).foldl (· ||| ·) 0 ∧
    (settled.own.isSome = true ↔ own.1 = claimKey word)) ∧
  (∀ others : List (Nat × Nat × Nat), (∀ b ∈ others, b.1 < 64 ∧ b.2.1 < 8 ∧ b.2.2 < 64) →
    let settled := Contest.settle ⟨[], released⟩ keyLines
      { own := none, rivals := others.map fun b => claimWord b.1 b.2.1 b.2.2 }
    let word := settled.bus released
    let survivors := others.filter fun b => b.1 == claimKey word
    settled.own = none ∧ (others = [] → word = 0xFFFF#16 ∧ isBlank word = true) ∧
    (others ≠ [] → isBlank word = false ∧ (∀ b ∈ others, b.1 ≤ claimKey word) ∧ survivors ≠ [] ∧
      claimStation word = (survivors.map fun b => b.2.1).foldl (· ||| ·) 0 ∧
      claimObject word = (survivors.map fun b => b.2.2).foldl (· ||| ·) 0))

/-- A blank round adds no entry and closes the window: the candidates left are denied in list order, the active part follows,
and a member with own grants begins its fetch with the row of its lowest slot (R72, R76, R82, R87). The station drives the
claim of the head of its list in MEMBER, and nothing in any other state or with its list empty (R68, R71). That the record
of what was driven shows the claim although the station has withdrawn in the round and released its lines (R69) is the
model's choice (log entry 18).
One denial adds 1 to the denied count, up to 255, and where it is a local overflow 1 to the overflow count, up to 255; it sets
the first denied line and object only where none stands (R82). What else the link carries as the key lines settle and as the
round is read is given by operands (R78; log entry 15). Round r ends with pixel time 10 + 3r of the line (R70); that a
position already past it is kept is the model's choice (log entry 4). -/
def Obligations.BlankRoundClosesTheWindow : Prop :=
  (∀ (L : Nat) (overflow : Bool) (r : Shortfall) (object : Nat),
    let after := Shortfall.deny L overflow r object
    after.denied = oneMore r.denied ∧ after.overflow = (if overflow then oneMore r.overflow else r.overflow) ∧
    after.frame = r.frame ∧
    (r.firstLine = none → after.firstLine = some L ∧ after.firstObject = some object) ∧
    (r.firstLine ≠ none → after.firstLine = r.firstLine ∧ after.firstObject = r.firstObject)) ∧
  (∀ (s : State) (bids : List Lines) (held : Carried),
    (∀ c rest, s.member.own = .member → s.claim.candidates = c :: rest → s.settledRound bids held =
      Contest.settle held keyLines
        { own := some (claimWord (s.keyFor c) s.straps.station.toNat c.object), rivals := bids }) ∧
    (s.member.own ≠ .member ∨ s.claim.candidates = [] →
      s.settledRound bids held = Contest.settle held keyLines { own := none, rivals := bids })) ∧
  ∀ (s : State) (r : Nat) (bids : List Lines) (held : Carried), s.resetPin = false → s.claim.window = some r →
    s.link.pixelTime < s.geometry.linePixels →
    isBlank ((s.settledRound bids held).bus held.reading) = true →
    ∃ t, exec (.claimRound bids held) s = .next t ∧
      t.claim = { s.claim with
        window := none
        current := (s.claim.candidates.map Candidate.object).foldl (Shortfall.deny s.link.lineCounter false)
          s.claim.current } ∧
      t.lines.column = some 0 ∧ t.member = s.member ∧ t.link.pixelTime = max (10 + 3 * r) s.link.pixelTime ∧
      t.link.frameNumber = s.link.frameNumber ∧ t.link.lineCounter = s.link.lineCounter ∧ t.link.synced = s.link.synced ∧
      (∀ c rest, s.member.own = .member → s.claim.candidates = c :: rest →
        t.link.ldata = claimWord (s.keyFor c) s.straps.station.toNat c.object) ∧
      (s.member.own ≠ .member ∨ s.claim.candidates = [] → t.link.ldata = released) ∧
      (s.member.own ≠ .member ∨ s.claim.ownGrants = [] →
        t.lines.buffer = s.lines.buffer ∧ t.lines.fetching = s.lines.fetching) ∧
      (∀ g rest, s.member.own = .member → s.claim.ownGrants = g :: rest →
        t.lines.fetching = true ∧ t.lines.buffer = [⟨g.slot, g.copy.object, g.copy.cls, g.copy.join,
          g.copy.watched, g.copy.screenX, g.copy.width, [], false⟩]) ∧
      t.table = s.table ∧ t.surface = s.surface ∧ t.engine = s.engine ∧ t.port = s.port ∧ t.picks = s.picks ∧
      t.collisions = s.collisions

/-- A round that is not blank: it is recorded as read unless it repeats a pair, which closes the window; the bidder that reads
its own station and object in a round recorded has won its slot; the one that reads its own key with another station or
object goes to CONFLICT; round 15 closes the window (R72, R73, R74, R75, R76). The station drives the claim of the head of its
list in MEMBER, and nothing in any other state or with its list empty (R68, R71). At the close the candidates left are
denied, the active part follows, and a station that is then MEMBER with own grants begins its fetch (R76, R82, R87). That a
mismatch counts in a round that repeats a pair is a reading of the model (log entry 25). That the record of what was driven
shows the claim also where the bidder lost, withdrew and released its lines (R69) is the model's choice (log entry 18). The change
to CONFLICT raises STATE once, and a round raises nothing else (R43, R75). What else the link carries as the key lines settle
and as the round is read is given by operands (R78; log entry 15). Round r ends with pixel time 10 + 3r of the line
(R70); that a position already past it is kept is the model's choice (log entry 4). -/
def Obligations.DrivenRoundIsRecordedAndCompared : Prop :=
  ∀ (s : State) (r : Nat) (bids : List Lines) (held : Carried), s.resetPin = false → s.claim.window = some r →
    s.link.pixelTime < s.geometry.linePixels →
    let settled := s.settledRound bids held
    let word := settled.bus held.reading
    isBlank word = false →
    let repeated := ∃ g ∈ s.claim.grants, g.station = claimStation word ∧ g.object = claimObject word
    let own := fun c : Candidate => claimStation word = s.straps.station.toNat ∧ claimObject word = c.object
    ∃ t, exec (.claimRound bids held) s = .next t ∧
      (repeated → t.claim.grants = s.claim.grants ∧ t.claim.window = none) ∧
      (¬repeated → t.claim.grants = s.claim.grants ++ [⟨r, claimStation word, claimObject word, claimKey word / 8⟩] ∧
        t.claim.window = if r < 15 then some (r + 1) else none) ∧
      (∀ c rest, s.member.own = .member → s.claim.candidates = c :: rest → own c → settled.own.isSome = true →
        ¬repeated → t.claim.candidates = rest ∧ t.claim.ownGrants = s.claim.ownGrants ++ [{ slot := r, copy := c }] ∧
        t.member.own = .member) ∧
      (∀ c rest, s.member.own = .member → s.claim.candidates = c :: rest → ¬own c → claimKey word = s.keyFor c →
        t.claim.candidates = s.claim.candidates ∧ t.claim.ownGrants = s.claim.ownGrants ∧
        t.member.own = .conflict ∧ t.link.ldata = released ∧
        t.member = { s.member with
          own := .conflict, listenCount := 0, windowWait := 0, admitted := false, detachPending := false
          announce := t.member.announce } ∧
        t.port.events = { s.port.events with state := oneMore s.port.events.state }) ∧
      (t.member.own = s.member.own → t.port.events = s.port.events ∧ t.member = s.member) ∧
      t.link.pixelTime = max (10 + 3 * r) s.link.pixelTime ∧
      t.link.frameNumber = s.link.frameNumber ∧ t.link.lineCounter = s.link.lineCounter ∧ t.link.synced = s.link.synced ∧
      (s.member.own ≠ .member ∨ s.claim.candidates = [] ∨
        (∃ c rest, s.claim.candidates = c :: rest ∧ ((own c ∧ (settled.own.isSome = false ∨ repeated)) ∨
          (¬own c ∧ claimKey word ≠ s.keyFor c))) →
        t.claim.candidates = s.claim.candidates ∧ t.claim.ownGrants = s.claim.ownGrants ∧ t.member = s.member) ∧
      (t.claim.window = none → t.claim.current = (t.claim.candidates.map Candidate.object).foldl
        (Shortfall.deny s.link.lineCounter false) s.claim.current) ∧
      (t.claim.window ≠ none → t.claim.current = s.claim.current ∧ t.lines = s.lines) ∧
      (t.claim.window = none → t.lines.column = some 0 ∧ t.lines.report = s.lines.report ∧
        (t.member.own ≠ .member ∨ t.claim.ownGrants = [] →
          t.lines.buffer = s.lines.buffer ∧ t.lines.fetching = s.lines.fetching) ∧
        (∀ g rest, t.member.own = .member → t.claim.ownGrants = g :: rest →
          t.lines.fetching = true ∧ t.lines.buffer = [⟨g.slot, g.copy.object, g.copy.cls, g.copy.join,
            g.copy.watched, g.copy.screenX, g.copy.width, [], false⟩])) ∧
      (s.member.own ≠ .member ∨ s.claim.candidates = [] → t.link.ldata = released) ∧
      (∀ c rest, s.member.own = .member → s.claim.candidates = c :: rest → own c ∨ claimKey word ≠ s.keyFor c →
        t.link.ldata = claimWord (s.keyFor c) s.straps.station.toNat c.object) ∧
      t.claim.last = s.claim.last ∧ t.table = s.table ∧ t.surface = s.surface ∧ t.engine = s.engine ∧
      t.picks = s.picks ∧ t.collisions = s.collisions ∧ t.port.responses = s.port.responses

/-! ### Line assembly -/

/-- One served fetch read, where no other client's access is known to be under service (log entry 9): the pixel of the captured
copy's row, read right to left under mirror, index 0 transparent; after the last pixel tint is applied, the row is complete, and
the next own grant's row begins or the fetch has ended (R87, R88, R89, R133). The fetch keeps the surface for as long
as it runs (R133); that no access of another client falls between two of its reads, which R90 and R138 say may fall there, is
the model's choice (log entry 30), and the two flags that say so are its own. -/
def Obligations.FetchReadsTheRowOfTheCopy : Prop :=
  ∀ (s : State) (g : OwnGrant) (r : Row), s.resetPin = false → s.lines.fetching = true →
    s.claim.ownGrants[s.lines.buffer.length - 1]? = some g → s.lines.buffer.getLast? = some r → r.complete = false →
    s.fetchFault = none → s.arbiter.held = none ∨ s.arbiter.held = some .fetch →
    let c := r.pixels.length
    let row := s.link.lineCounter - g.copy.screenY
    let index := s.pixel (if g.copy.mirror then g.copy.sourceX + g.copy.width - 1 - c else g.copy.sourceX + c)
      (g.copy.sourceY + row)
    let pixels := r.pixels ++ [if index = 0#8 then none else some index]
    let tinted := match g.copy.tint with
      | none => pixels
      | some t => pixels.map fun p => p.map fun _ => s.tints.getD (t.start + min row (t.length - 1)) 0#8
    let done := { portMayHold := false, engineMayHold := false : Arbiter }
    (c + 1 < r.width → exec .fetchAccessServed s = .next { s with
      lines := { s.lines with buffer := s.lines.buffer.dropLast ++ [{ r with pixels := pixels }] }
      arbiter := done }) ∧
    (r.width ≤ c + 1 → s.claim.ownGrants[s.lines.buffer.length]? = none →
      exec .fetchAccessServed s = .next { s with
        lines := { s.lines with
          buffer := s.lines.buffer.dropLast ++ [{ r with pixels := tinted, complete := true }]
          fetching := false }
        arbiter := done }) ∧
    (∀ g', r.width ≤ c + 1 → s.claim.ownGrants[s.lines.buffer.length]? = some g' →
      exec .fetchAccessServed s = .next { s with
        lines := { s.lines with buffer := s.lines.buffer.dropLast ++ [{ r with pixels := tinted, complete := true },
          ⟨g'.slot, g'.copy.object, g'.copy.cls, g'.copy.join, g'.copy.watched, g'.copy.screenX, g'.copy.width, [], false⟩] }
        arbiter := done })

/-- The winner phase of a column: the slot read is the lowest driven, and colour and watched bit are the bitwise AND of what
the contributions of that slot drove (R94). Each contribution is given as (slot, colour, watched). The same holds of a column
to which this station contributes nothing, and a column to which nothing contributes is blank. The colour lies on lines 0 … 7,
the slot on lines 8 … 11, the watched bit on line 12, and line 15 is the presence line, driven 0; a join colour is driven as
its complement on lines 0 … 7 (R94). The slot lines settle one at a time from line 11 down to line 8 (R94). What else the link
carries may differ from line to line and at the reading (R99); that each line settles with one value of it is the model's
choice (log entry 15). -/
def Obligations.ColumnSettlesOnTheLowestSlot : Prop :=
  (∀ (slot : Nat) (colour : Byte) (watched : Bool), slot < 16 →
    (winnerWord slot colour watched).toNat = colour.toNat + 256 * slot + (if watched then 4096 else 0) + 24576) ∧
  (∀ word : Lines, winnerSlot word = word.toNat / 256 % 16 ∧ (lowByte word).toNat = word.toNat % 256) ∧
  (∀ colour : Byte, (joinWord colour).toNat + colour.toNat = 65535) ∧
  (∀ (held : Carried) (c : Contest), Contest.settle held slotLines c =
    [(11, 0), (10, 1), (9, 2), (8, 3)].foldl (fun (c : Contest) (line, k) =>
    let stays := fun w : Lines => !w.getLsbD line || (c.bus (held.settling.getD k held.reading)).getLsbD line
    { own := c.own.filter stays, rivals := c.rivals.filter stays }) c) ∧
  (∀ (own : Nat × Byte × Bool) (others : List (Nat × Byte × Bool)), (∀ b ∈ own :: others, b.1 < 16) →
    let settled := Contest.settle ⟨[], released⟩ slotLines
      { own := some (winnerWord own.1 own.2.1 own.2.2), rivals := others.map fun b => winnerWord b.1 b.2.1 b.2.2 }
    let word := settled.bus released
    let winners := (own :: others).filter fun b => b.1 == winnerSlot word
    isBlank word = false ∧ (∀ b ∈ own :: others, winnerSlot word ≤ b.1) ∧ winners ≠ [] ∧
    lowByte word = (winners.map fun b => b.2.1).foldl (· &&& ·) 0xFF#8 ∧
    word.getLsbD 12 = winners.all fun b => b.2.2) ∧
  (∀ others : List (Nat × Byte × Bool), (∀ b ∈ others, b.1 < 16) →
    let settled := Contest.settle ⟨[], released⟩ slotLines
      { own := none, rivals := others.map fun b => winnerWord b.1 b.2.1 b.2.2 }
    let word := settled.bus released
    let winners := others.filter fun b => b.1 == winnerSlot word
    (others = [] → word = 0xFFFF#16 ∧ isBlank word = true) ∧
    (others ≠ [] → isBlank word = false ∧ (∀ b ∈ others, winnerSlot word ≤ b.1) ∧ winners ≠ [] ∧
      lowByte word = (winners.map fun b => b.2.1).foldl (· &&& ·) 0xFF#8 ∧
      word.getLsbD 12 = winners.all fun b => b.2.2))

/-- The entry of a row at screen column x: its pixel x − first screen column where the row is complete and covers x, that is where
first screen column ≤ x ≤ first screen column + width − 1; none at every other column, and none where that pixel is transparent
(R92).
The own contribution of a column: the opaque entry of the row with the lowest slot among the complete rows that are no join
rows, in MEMBER, driven with that slot, its colour and its row's watched flag; a station in any other state drives none (R92,
R94).
The join colours of a winning slot: the complement, on lines 0 … 7, of the OR of the colours of the opaque join rows whose
class is that of the slot's grant list entry; none without an entry or outside MEMBER (R93, R94). -/
def Obligations.OwnRowsDriveTheColumn : Prop :=
  (∀ (r : Row) (x : Nat), r.entryAt x =
    if r.complete = true ∧ r.first ≤ (x : Int) ∧ (x : Int) ≤ r.first + r.width - 1 then
      r.pixels.getD ((x : Int) - r.first).toNat none else none) ∧
  (∀ (s : State) (x : Nat), s.lines.buffer.Pairwise (fun a b => a.slot < b.slot) →
      (s.contribution x = none → s.contributionWord x = none) ∧
      (s.member.own ≠ .member → s.contribution x = none ∧ s.ownRows x = []) ∧
      (s.member.own = .member →
        (∀ r, s.contribution x = some r → (∃ colour, r.entryAt x = some colour ∧
          r.pixels[((x : Int) - r.first).toNat]? = some (some colour) ∧
          s.contributionWord x = some (winnerWord r.slot colour r.watched)) ∧ r ∈ s.lines.buffer ∧ r.join = false ∧ r.complete = true ∧
          r.first ≤ (x : Int) ∧ (x : Int) ≤ r.first + r.width - 1 ∧
          ∀ r' ∈ s.lines.buffer, r'.join = false → (r'.entryAt x).isSome = true → r.slot ≤ r'.slot) ∧
        (s.contribution x = none → ∀ r ∈ s.lines.buffer, r.join = false → (r.entryAt x).isSome = false))) ∧
  (∀ (s : State) (x slot : Nat),
      (s.member.own ≠ .member → s.joinDrive x slot = released) ∧
      (s.claim.grants.find? (fun g => g.slot == slot) = none → s.joinDrive x slot = released) ∧
      (∀ g, s.member.own = .member → s.claim.grants.find? (fun g => g.slot == slot) = some g →
        s.joinDrive x slot = 0xFF#8 ++ ~~~((s.lines.buffer.filter fun r => r.join && r.cls == g.cls).foldl
          (fun (c : Byte) r => c ||| (r.entryAt x).getD 0#8) 0#8)))

/-- A column resolved: what is driven, the composed colour with the join colours OR-ed in, the column report with the winner
named from the grant list and the own rows opaque at the column in slot order, the palette entry on RGB, and what the
Collision Unit and then the Pick Unit make of the report: the log, the records and the points, and the events of both (R93 …
R97, R103, R106, R108, R121, R127); that all offers of a report come in the column's one happening is the model's choice (log
entry 31). The position is the column's pixel time unless it has passed (log entry 4). That the
record of what was driven shows the own contribution also where it lost and the station released its lines (R94) is the
model's choice (log entry 18). What else the link carries as the slot lines settle and as the column is read is given by operands
(R99; log entry 15). A column is resolved at a synced station that holds the active part, has it not yet through, and
whose claim window has closed and fetch has ended, on a line that has not run past its own end (R27, R29, R95; log entry
21). -/
def Obligations.ColumnIsComposedAndReported : Prop :=
  (∀ s : State, s.columnDue = true ↔ s.link.synced = true ∧ s.link.pixelTime < s.geometry.linePixels ∧
    s.claim.window = none ∧ s.lines.fetching = false ∧ ∃ x, s.lines.column = some x ∧ x < s.geometry.activePixels) ∧
  (∀ (s : State) (x : Nat) (rivals : List Lines) (held : Carried), s.settledColumn x rivals held =
    Contest.settle held slotLines { own := s.contributionWord x, rivals := rivals }) ∧
  ∀ (s : State) (x : Nat) (rivals : List Lines) (held : Carried) (join : Lines), s.resetPin = false → s.columnDue = true →
    s.lines.column = some x →
    let word := (s.settledColumn x rivals held).bus held.reading
    let named := s.claim.grants.find? fun g => g.slot == winnerSlot word
    let ownJoin := if isBlank word then released else s.joinDrive x (winnerSlot word)
    let composed : Byte := if isBlank word then 0#8 else lowByte word ||| ~~~(lowByte (join &&& ownJoin))
    let winner := if isBlank word then Winner.backdrop else match named with
      | some g => .named g.station g.object g.cls
      | none => .unknown
    ∃ t rep, exec (.columnResolved rivals held join) s = .next t ∧ t.lines.report = some rep ∧
      rep.line = s.link.lineCounter ∧ rep.x = x ∧ rep.winner = winner ∧ rep.reading.composed = composed ∧
      rep.reading.slot = (if isBlank word then none else some (winnerSlot word)) ∧
      rep.reading.watched = (!isBlank word && word.getLsbD 12) ∧
      rep.reading.colour = (if isBlank word then 0#8 else lowByte word) ∧
      (s.member.own ≠ .member → rep.own = []) ∧
      (s.member.own = .member → rep.own = (s.lines.buffer.filter fun r => (r.entryAt x).isSome).map fun r =>
        { slot := r.slot, object := r.object, join := r.join, watched := r.watched }) ∧
      t.lines.column = some (x + 1) ∧ t.lines.buffer = s.lines.buffer ∧
      t.link.ldata = (s.contributionWord x).getD released ∧ t.link.ldataJoin = ownJoin ∧
      t.link.pixelTime = max (s.geometry.linePixels - s.geometry.activePixels + x) s.link.pixelTime ∧
      t.link.frameNumber = s.link.frameNumber ∧ t.link.lineCounter = s.link.lineCounter ∧ t.link.synced = true ∧
      t.output.rgb = s.output.palette.getD composed.toNat .black ∧ t.output.palette = s.output.palette ∧
      t.collisions = ((s.collisionsFound rep).foldl State.offerCollision s).collisions ∧
      t.picks.points = s.picks.points.filter (fun p => !(p.x == x && p.y == s.link.lineCounter)) ∧
      t.picks = (((s.collisionsFound rep).foldl State.offerCollision s).examinePicks rep).picks ∧
      t.port = { s.port with
        events := (((s.collisionsFound rep).foldl State.offerCollision s).examinePicks rep).port.events } ∧
      t.member = s.member ∧ t.claim = s.claim ∧ t.table = s.table ∧ t.tints = s.tints ∧ t.surface = s.surface ∧
      t.engine = s.engine ∧ t.port.commands = s.port.commands ∧ t.port.responses = s.port.responses

/-- The video outputs: not driven with the strap off; VSYNC asserted while synced with the counter at T − 3 … T − 1 (R103,
R104).
The figures of the own preset: active pixels and pixel times per line, active lines A, total lines T and the agreement code, as
Table 2-1 gives them for each preset (R26). -/
def Obligations.VideoPinsFollowTheStrap : Prop :=
  (∀ s : State,
    (s.straps.preset = 0#2 → s.geometry.activePixels = 320 ∧ s.geometry.linePixels = 400 ∧ s.geometry.activeLines = 240 ∧
      s.geometry.totalLines = 262 ∧ s.geometry.code = 0x50#8) ∧
    (s.straps.preset = 1#2 → s.geometry.activePixels = 384 ∧ s.geometry.linePixels = 480 ∧ s.geometry.activeLines = 288 ∧
      s.geometry.totalLines = 312 ∧ s.geometry.code = 0x51#8) ∧
    (s.straps.preset = 2#2 → s.geometry.activePixels = 512 ∧ s.geometry.linePixels = 640 ∧ s.geometry.activeLines = 384 ∧
      s.geometry.totalLines = 416 ∧ s.geometry.code = 0x52#8) ∧
    (s.straps.preset = 3#2 → s.geometry.activePixels = 640 ∧ s.geometry.linePixels = 800 ∧ s.geometry.activeLines = 480 ∧
      s.geometry.totalLines = 525 ∧ s.geometry.code = 0x53#8)) ∧
  ∀ s : State,
    (s.straps.video = false → s.rgbPins = none ∧ s.hsyncPin = none ∧ s.vsyncPin = none) ∧
    (s.straps.video = true → s.rgbPins = some s.output.rgb ∧ s.hsyncPin = some s.output.hsync ∧
      (s.link.lineCounter < s.geometry.totalLines →
        (s.vsyncPin = some true ↔ s.link.synced = true ∧ (s.link.lineCounter + 3 = s.geometry.totalLines ∨
          s.link.lineCounter + 2 = s.geometry.totalLines ∨ s.link.lineCounter + 1 = s.geometry.totalLines))))

/-! ### Collisions and picks -/

/-- The collisions of a column: in MEMBER, with a named winner and the watched bit set, one for each own row that is watched,
no join row and not in the winning slot, lowest slot first (R106, R107, R108).
A collision offered to the log: discarded where its pair key stands there; dropped from a full log, with the newest record's
more flag and LOG_FULL; else added as the newest record, with COLLISION (R110, R111). -/
def Obligations.WatchedLosersAreLoggedOncePerPair : Prop :=
  (∀ (s : State) (rep : ColumnReport),
      (s.member.own ≠ .member ∨ rep.winner = .backdrop ∨ rep.winner = .unknown ∨ rep.reading.watched = false →
        s.collisionsFound rep = []) ∧
      (∀ station object cls, s.member.own = .member → rep.winner = .named station object cls →
        rep.reading.watched = true → s.collisionsFound rep =
          (rep.own.filter fun p => !p.join && p.watched && decide (rep.reading.slot ≠ some p.slot)).map fun p =>
            { frame := s.link.frameNumber, line := rep.line, x := rep.x, own := p.object, station := station,
              object := object, more := false })) ∧
  (∀ (s : State) (c : CollisionRecord),
      let repeats := ∃ r ∈ s.collisions,
        r.frame = c.frame ∧ r.own = c.own ∧ r.station = c.station ∧ r.object = c.object
      (repeats → s.offerCollision c = s) ∧
      (∀ older newest, ¬repeats → s.collisions = older ++ [newest] → 8 ≤ s.collisions.length →
        s.offerCollision c = { s with
          collisions := older ++ [{ newest with more := true }]
          port := { s.port with events := { s.port.events with logFull := oneMore s.port.events.logFull } } }) ∧
      (¬repeats → s.collisions.length < 8 → s.offerCollision c = { s with
        collisions := s.collisions ++ [c]
        port := { s.port with events := { s.port.events with collision := oneMore s.port.events.collision } } }))

/-- PICK AT is checked against the own preset, then for room, and joins the Pending Point List (R120). -/
def Obligations.PickAtPlacesAPoint : Prop :=
  ∀ (s : State) (tag x0 x1 y0 y1 : Byte) (rest : List Entry), s.Takes (.ordinary 0x50#8 tag [x0, x1, y0, y1]) rest →
    let x := (x1 ++ x0 : BitVec 16).toNat
    let y := (y1 ++ y0 : BitVec 16).toNat
    (s.geometry.activePixels ≤ x ∨ s.geometry.activeLines ≤ y →
      exec .pickAt s = .next (s.answered (.ordinary 0x50#8 tag [x0, x1, y0, y1]) rest .badField [])) ∧
    (x < s.geometry.activePixels → y < s.geometry.activeLines → 4 ≤ s.picks.points.length →
      exec .pickAt s = .next (s.answered (.ordinary 0x50#8 tag [x0, x1, y0, y1]) rest .full [])) ∧
    (x < s.geometry.activePixels → y < s.geometry.activeLines → s.picks.points.length < 4 →
      exec .pickAt s = .next { s.answered (.ordinary 0x50#8 tag [x0, x1, y0, y1]) rest .ok
          [BitVec.ofNat 8 (s.picks.points.length + 1)] with
        picks := { s.picks with points := s.picks.points ++ [{ tag := tag, x := x, y := y }] } })

/-- The records of one column report: first one for each pending point at its position, in list order, then one for a trigger
resolved there; each joins the Pick Queue with PICK, or is discarded with PICK_LOST (R121, R123, R124, R126, R127). -/
def Obligations.ColumnReportResolvesPicks : Prop :=
  ∀ (s : State) (rep : ColumnReport), s.port.events.pick ≤ 255 → s.port.events.pickLost ≤ 255 →
    let record := fun tag : Option Byte => (⟨tag, s.link.frameNumber, rep.x, rep.line, rep.winner, rep.reading.composed,
      rep.own.map fun p => ⟨p.slot, p.object, p.join⟩⟩ : PickRecord)
    let here := fun p : PickPoint => decide (p.x = rep.x ∧ p.y = rep.line)
    let triggered := s.picks.edgeWaiting = true ∨ (s.picks.trigger = true ∧ rep.x = 0)
    let records := (s.picks.points.filter here).map (fun p => record (some p.tag)) ++
      (if s.picks.edgeWaiting || (s.picks.trigger && rep.x == 0) then [record none] else [])
    let room := 4 - s.picks.queue.length
    let t := s.examinePicks rep
    t.picks.queue = s.picks.queue ++ records.take room ∧
    t.picks.points = s.picks.points.filter (fun p => !here p) ∧
    t.port.events.pick = min 255 (s.port.events.pick + min room records.length) ∧
    t.port.events.pickLost = min 255 (s.port.events.pickLost + (records.length - room)) ∧
    (triggered → t.picks.trigger = (s.picks.trigger && rep.x != 0) ∧ t.picks.edgeWaiting = false) ∧
    (¬triggered → t.picks.trigger = s.picks.trigger) ∧
    t = { s with picks := t.picks, port := { s.port with events := t.port.events } }

/-- An edge of PICKTRIG: ignored while unsynced; filling the trigger point in blank time; in the pixel time of a column whose
report has been handed on, a record made from that report; before it, waiting for it (R123, R124, R127). That a further edge
of one pixel time is folded is the model's choice (log entry 13), and so is that an edge taken while columns are overdue waits
for the column due next. A pixel time is that of column x exactly where the station
holds the active part, its window closed and its fetch ended, and it lies x pixel times into the active part (R27, R123). -/
def Obligations.PickEdgeIsPlacedByItsPixelTime : Prop :=
  ∀ s : State, s.resetPin = false →
    (∀ x, s.columnNow = some x ↔ (∃ next, s.lines.column = some next) ∧ s.claim.window = none ∧
      s.lines.fetching = false ∧ s.link.pixelTime = s.geometry.linePixels - s.geometry.activePixels + x ∧
      x < s.geometry.activePixels) ∧
    (s.link.synced = false → exec .picktrigEdge s = .next s) ∧
    (s.link.synced = true → s.columnNow = none →
      exec .picktrigEdge s = .next { s with picks := { s.picks with trigger := true } }) ∧
    (∀ x rep, s.link.synced = true → s.columnNow = some x → s.lines.report = some rep → rep.x = x →
      s.lines.column = some (x + 1) → s.picks.edgeTaken = false → s.picks.queue.length < 4 →
      exec .picktrigEdge s = .next { s with
        picks := { s.picks with
          edgeTaken := true
          queue := s.picks.queue ++ [⟨none, s.link.frameNumber, rep.x, rep.line, rep.winner,
            rep.reading.composed, rep.own.map fun p => ⟨p.slot, p.object, p.join⟩⟩] }
        port := { s.port with events := { s.port.events with pick := oneMore s.port.events.pick } } }) ∧
    (∀ x rep, s.link.synced = true → s.columnNow = some x → s.lines.report = some rep → rep.x = x →
      s.lines.column = some (x + 1) → s.picks.edgeTaken = false → 4 ≤ s.picks.queue.length →
      exec .picktrigEdge s = .next { s with
        picks := { s.picks with edgeTaken := true }
        port := { s.port with events := { s.port.events with pickLost := oneMore s.port.events.pickLost } } }) ∧
    (∀ x rep, s.link.synced = true → s.columnNow = some x → s.lines.report = some rep → rep.x = x →
      s.lines.column = some (x + 1) → s.picks.edgeTaken = true → exec .picktrigEdge s = .next s) ∧
    (∀ x, s.link.synced = true → s.columnNow = some x → s.lines.column = some x → s.picks.trigger = true →
      exec .picktrigEdge s = .next s) ∧
    (∀ x, s.link.synced = true → s.columnNow = some x → s.lines.column = some x → s.picks.trigger = false →
      exec .picktrigEdge s = .next { s with picks := { s.picks with edgeWaiting := true } }) ∧
    (∀ x due, s.link.synced = true → s.columnNow = some x → s.lines.column = some due → due < x →
      exec .picktrigEdge s = .next (if s.picks.trigger = true then s
        else { s with picks := { s.picks with edgeWaiting := true } }))

/-! ### The Surface Store -/

/-- SURFACE WRITE and SURFACE READ are checked and begin their transfers (R135, R136, R137), which hold the port. The flag that
keeps open whether an access of the engine was under service as the port's first one came is the model's choice (log entry
9). -/
def Obligations.SurfaceTransferBegins : Prop :=
  ∀ (s : State) (tag x0 x1 y0 y1 : Byte) (rest : List Entry),
    let x := (x1 ++ x0 : BitVec 16).toNat
    let y := (y1 ++ y0 : BitVec 16).toNat
    let begun := fun transfer : Transfer => ({ s with
      port := { s.port with commands := rest, transfer := some transfer }
      arbiter := { s.arbiter with engineMayHold := s.mayServe .engine } } : State)
    (∀ pixels : List Byte, 1 ≤ pixels.length → pixels.length ≤ 240 →
      s.Takes (.ordinary 0x20#8 tag ([x0, x1, y0, y1] ++ pixels)) rest →
      (y ≤ 511 → x + pixels.length ≤ 512 → exec .surfaceWrite s = .next (begun (.write tag x y pixels 0))) ∧
      (511 < y ∨ 512 < x + pixels.length → exec .surfaceWrite s =
        .next (s.answered (.ordinary 0x20#8 tag ([x0, x1, y0, y1] ++ pixels)) rest .badField []))) ∧
    (∀ count : Byte, s.Takes (.ordinary 0x21#8 tag [x0, x1, y0, y1, count]) rest →
      (1 ≤ count.toNat → count.toNat ≤ 240 → y ≤ 511 → x + count.toNat ≤ 512 →
        exec .surfaceRead s = .next (begun (.read tag x y count.toNat []))) ∧
      (count = 0#8 ∨ 240 < count.toNat ∨ 511 < y ∨ 512 < x + count.toNat →
        exec .surfaceRead s = .next (s.answered (.ordinary 0x21#8 tag [x0, x1, y0, y1, count]) rest .badField [])))

/-- A port access served: the next pixel of the row is written or read; with the last one the transfer is released and its
command answered OK. It is served while the fetch has no access waiting, or where it was under service before (R133, R136,
R137).
An access of a lower client waits while a higher client's access waits, unless it was under service before, and every other
access waits while one is known to be under service (R133; the operand that names one is log entry 9).
The fetch has an access waiting while it runs, the port while a transfer holds it, the engine while a command runs; the arbiter
may serve the access known to be under service, and where none is, that of the highest client with one waiting, the fetch
before the port and the port before the engine, or one that was under service before (R133). That the fetch has its next access
waiting at once for as long as it runs, so that the rows of the port and of the engine change nothing between two of its reads,
where R90 and R138 let accesses fall, is the model's choice: it follows R133, R140, R157 and Table 8-1 (log entry 30). A pixel
written is read back, and no other pixel changes (R132; the address of a pixel is log entry 26). -/
def Obligations.PortAccessIsServed : Prop :=
  (∀ s : State,
    (s.presents .fetch = true ↔ s.lines.fetching = true) ∧ (s.presents .port = true ↔ s.port.transfer ≠ none) ∧
    (s.presents .engine = true ↔ (∃ e p, s.engine.mode = .running e p) ∨ ∃ e p q, s.engine.mode = .stopping e p q) ∧
    (∀ c h, s.arbiter.held = some h → s.presents h = true → (s.mayServe c = true ↔ c = h)) ∧
    ((∀ h, s.arbiter.held = some h → s.presents h = false) →
      (s.mayServe .fetch = true ↔ s.presents .fetch = true) ∧
      (s.mayServe .port = true ↔
        s.presents .port = true ∧ (s.lines.fetching = false ∨ s.arbiter.portMayHold = true)) ∧
      (s.mayServe .engine = true ↔ s.presents .engine = true ∧
        ((s.lines.fetching = false ∧ s.port.transfer = none) ∨ s.arbiter.engineMayHold = true)))) ∧
  (∀ (s : State) (x y address : Nat) (v : Byte), Memory.wf s.surface = true →
    ({ s with surface := Memory.write s.surface address v } : State).pixel x y =
      if 512 * y + x = address then v else s.pixel x y) ∧
  (∀ s : State,
    (s.lines.fetching = true → s.arbiter.portMayHold = false → s.arbiter.held ≠ some .port →
      exec .portWriteAccessServed s = .next s ∧ exec .portReadAccessServed s = .next s) ∧
    (s.lines.fetching = true ∨ s.port.transfer ≠ none → s.arbiter.engineMayHold = false →
      s.arbiter.held ≠ some .engine → exec .engineAccessServed s = .next s) ∧
    (s.arbiter.held = some .fetch → s.lines.fetching = true →
      exec .portWriteAccessServed s = .next s ∧ exec .portReadAccessServed s = .next s ∧
        exec .engineAccessServed s = .next s) ∧
    (s.arbiter.held = some .port → s.port.transfer ≠ none →
      exec .fetchAccessServed s = .next s ∧ exec .engineAccessServed s = .next s) ∧
    (s.arbiter.held = some .engine → engineCurrent s.engine.mode ≠ none →
      exec .fetchAccessServed s = .next s ∧ exec .portWriteAccessServed s = .next s ∧
        exec .portReadAccessServed s = .next s)) ∧
  ∀ (s : State) (tag : Byte) (x y : Nat), s.resetPin = false → y ≤ 511 →
    s.lines.fetching = false ∨ s.arbiter.portMayHold = true → s.arbiter.held = none ∨ s.arbiter.held = some .port →
    let free := { portMayHold := false, engineMayHold := false : Arbiter }
    (∀ pixels next, s.port.transfer = some (.write tag x y pixels next) → x + next ≤ 511 →
      (next + 1 < pixels.length → exec .portWriteAccessServed s = .next { s with
        surface := Memory.write s.surface (512 * y + (x + next)) (pixels.getD next 0#8)
        port := { s.port with transfer := some (.write tag x y pixels (next + 1)) }
        arbiter := free }) ∧
      (pixels.length ≤ next + 1 → exec .portWriteAccessServed s = .next { s with
        surface := Memory.write s.surface (512 * y + (x + next)) (pixels.getD next 0#8)
        port := { s.port with
          transfer := none
          responses := s.port.responses ++ [⟨tag, 0x20#8, .ok, []⟩] }
        arbiter := free })) ∧
    (∀ count got, s.port.transfer = some (.read tag x y count got) → x + got.length ≤ 511 →
      (got.length + 1 < count → exec .portReadAccessServed s = .next { s with
        port := { s.port with transfer := some (.read tag x y count (got ++ [s.pixel (x + got.length) y])) }
        arbiter := free }) ∧
      (count ≤ got.length + 1 → exec .portReadAccessServed s = .next { s with
        port := { s.port with
          transfer := none
          responses := s.port.responses ++ [⟨tag, 0x21#8, .ok, got ++ [s.pixel (x + got.length) y]⟩] }
        arbiter := free }))

/-- A pixel of the surface changes only where a write access of the port or the engine is served for it, the write access of the
port or the engine that is being served for it ends whole at RESTART, or the reset pin clears the surface (R131, R132,
R139). How the access in service at RESTART is known is the model's choice (log entry 9), and so is the address of a pixel (log
entry 26). -/
def Obligations.SurfaceChangesOnlyByServedWrites : Prop :=
  ∀ (c : Instr) (s t : State) (x y : Nat), exec c s = .next t → t.pixel x y ≠ s.pixel x y →
    (c = .portWriteAccessServed ∧ ∃ tag px py pixels next, s.port.transfer = some (.write tag px py pixels next) ∧
      512 * y + x = 512 * py + (px + next)) ∨
    (c = .engineAccessServed ∧ ∃ e p v, engineCurrent s.engine.mode = some (e, p) ∧
      accessWrite e.cmd p (s.pixel (accessPosition e.cmd p).1 (accessPosition e.cmd p).2) = some v ∧
      512 * y + x = 512 * (accessPosition e.cmd p).2 + (accessPosition e.cmd p).1) ∨
    (∃ inService, (c = .restart inService ∨
        ∃ bytes, c = .commandFrameReceived bytes inService ∧ receive bytes = .restart) ∧
      ((s.serving inService = some .port ∧ s.mayServe .port = true ∧
          ∃ tag px py pixels next, s.port.transfer = some (.write tag px py pixels next) ∧
            512 * y + x = 512 * py + (px + next)) ∨
        (s.serving inService = some .engine ∧ s.mayServe .engine = true ∧
          ∃ e p v, engineCurrent s.engine.mode = some (e, p) ∧
            accessWrite e.cmd p (s.pixel (accessPosition e.cmd p).1 (accessPosition e.cmd p).2) = some v ∧
            512 * y + x = 512 * (accessPosition e.cmd p).2 + (accessPosition e.cmd p).1))) ∨
    c = .resetPinAsserted ∨ (∃ station preset video, c = .resetPinReleased station preset video)

/-! ### The Drawing Engine -/

/-- A draw command taken: BAD_FIELD where a check fails; else it is accepted, and an IDLE engine takes it at once: into WAITING
with frame-sync, into RUNNING without, or to its end where it presents no access (R142, R143, R145, R146).
The checks of each command's payload: an operation field of 5 to 7, a mode bit that must be 0, a coordinate above 511, or a
width or height of 0 or above 512 is refused, and nothing else; what is accepted is the command the payload spells (R145,
Tables 9-1 and 9-2). A FILL, LINE or PLOT of colour 0 with skip-zero presents no access, and every other command does (R146);
each command carries its frame-sync flag (Table 9-2). -/
def Obligations.DrawCommandIsAccepted : Prop :=
  (∀ d : DrawCmd, presentsNothing d = true ↔
    (∃ op sync x y w h, d = .fill op true sync x y w h 0#8) ∨ (∃ op sync x0 y0 x1 y1, d = .line op true sync x0 y0 x1 y1 0#8) ∨
    (∃ op sync x y, d = .plot op true sync x y 0#8)) ∧
  (∀ sync : Bool,
    (∀ op skip x y w h colour, drawSync (.fill op skip sync x y w h colour) = sync) ∧
    (∀ op skip left up sx sy dx dy w h, drawSync (.copy op skip left up sync sx sy dx dy w h) = sync) ∧
    (∀ op skip x0 y0 x1 y1 colour, drawSync (.line op skip sync x0 y0 x1 y1 colour) = sync) ∧
    (∀ left differ x y value, drawSync (.seek left differ sync x y value) = sync) ∧
    (∀ op skip x y colour, drawSync (.plot op skip sync x y colour) = sync) ∧ (∀ x y, drawSync (.probe sync x y) = sync)) ∧
  (∀ p : List Byte,
    (p.length = 10 → ((readDraw .fill p).isSome = true ↔ byteAt p 0 % 8 ≤ 4 ∧ byteAt p 0 / 16 % 8 = 0 ∧
      wordAt p 1 ≤ 511 ∧ wordAt p 3 ≤ 511 ∧ 1 ≤ wordAt p 5 ∧ wordAt p 5 ≤ 512 ∧ 1 ≤ wordAt p 7 ∧ wordAt p 7 ≤ 512)) ∧
    (p.length = 13 → ((readDraw .copy p).isSome = true ↔ byteAt p 0 % 8 ≤ 4 ∧ byteAt p 0 / 64 % 2 = 0 ∧
      wordAt p 1 ≤ 511 ∧ wordAt p 3 ≤ 511 ∧ wordAt p 5 ≤ 511 ∧ wordAt p 7 ≤ 511 ∧
      1 ≤ wordAt p 9 ∧ wordAt p 9 ≤ 512 ∧ 1 ≤ wordAt p 11 ∧ wordAt p 11 ≤ 512)) ∧
    (p.length = 10 → ((readDraw .line p).isSome = true ↔ byteAt p 0 % 8 ≤ 4 ∧ byteAt p 0 / 16 % 8 = 0 ∧
      wordAt p 1 ≤ 511 ∧ wordAt p 3 ≤ 511 ∧ wordAt p 5 ≤ 511 ∧ wordAt p 7 ≤ 511)) ∧
    (p.length = 6 → ((readDraw .seek p).isSome = true ↔ byteAt p 0 % 16 = 0 ∧ byteAt p 0 / 64 % 2 = 0 ∧
      wordAt p 1 ≤ 511 ∧ wordAt p 3 ≤ 511)) ∧
    (p.length = 6 → ((readDraw .plot p).isSome = true ↔ byteAt p 0 % 8 ≤ 4 ∧ byteAt p 0 / 16 % 8 = 0 ∧
      wordAt p 1 ≤ 511 ∧ wordAt p 3 ≤ 511)) ∧
    (p.length = 5 → ((readDraw .probe p).isSome = true ↔ byteAt p 0 % 128 = 0 ∧ wordAt p 1 ≤ 511 ∧ wordAt p 3 ≤ 511)) ∧
    ∀ row ∈ drawRows, ∀ d, p.length = row.2.2.2 → readDraw row.2.1 p = some d →
      drawPayload d = p ∧ drawCommand d = row.2.1 ∧ drawFits d = true) ∧
  ∀ row ∈ drawRows, ∀ (s : State) (tag : Byte) (payload : List Byte) (rest : List Entry),
    payload.length = row.2.2.2 → s.Takes (.ordinary row.2.2.1 tag payload) rest →
    (readDraw row.2.1 payload = none →
      exec row.1 s = .next (s.answered (.ordinary row.2.2.1 tag payload) rest .badField [])) ∧
    (∀ d, readDraw row.2.1 payload = some d →
      (s.engine.mode ≠ .idle → exec row.1 s = .next { s.without rest with
        engine := { s.engine with queue := s.engine.queue ++ [⟨tag, d⟩] } }) ∧
      (s.engine = { mode := .idle, queue := [] } → drawSync d = true → exec row.1 s = .next { s.without rest with
        engine := { mode := .waiting ⟨tag, d⟩, queue := [] } }) ∧
      (s.engine = { mode := .idle, queue := [] } → drawSync d = false → presentsNothing d = false →
        exec row.1 s = .next { s.without rest with
          engine := { mode := .running ⟨tag, d⟩ Progress.none, queue := [] } }) ∧
      (s.engine = { mode := .idle, queue := [] } → drawSync d = false → presentsNothing d = true →
        exec row.1 s = .next (s.answered (.ordinary row.2.2.1 tag payload) rest .ok
          (endState d { done := pixelCount d, source := none, found := false, value := 0#8 }))))

/-- The pixels of a LINE: major + 1 of them, the major coordinate one further at each step and the minor coordinate by the
rounded offset, each with the sign of its delta; from the first point to the last, no pixel twice, all in the surface
(R150). -/
def Obligations.LineTakesItsPixels : Prop :=
  ∀ (op : DrawOp) (skip sync : Bool) (x0 y0 x1 y1 : Nat) (colour : Byte),
    x0 ≤ 511 → y0 ≤ 511 → x1 ≤ 511 → y1 ≤ 511 →
    let dx : Int := (x1 : Int) - x0
    let dy : Int := (y1 : Int) - y0
    let major : Int := max |dx| |dy|
    let minor : Int := min |dx| |dy|
    let d := DrawCmd.line op skip sync x0 y0 x1 y1 colour
    (pixelCount d : Int) = major + 1 ∧
    (∀ (p : Progress), p.done < pixelCount d →
      let i : Int := p.done
      let offset : Int := if major = 0 then 0 else (2 * i * minor + major) / (2 * major)
      (accessPosition d p).1 ≤ 511 ∧ (accessPosition d p).2 ≤ 511 ∧
      (|dy| ≤ |dx| → ((accessPosition d p).1 : Int) = x0 + dx.sign * i ∧
        ((accessPosition d p).2 : Int) = y0 + dy.sign * offset) ∧
      (|dx| < |dy| → ((accessPosition d p).2 : Int) = y0 + dy.sign * i ∧
        ((accessPosition d p).1 : Int) = x0 + dx.sign * offset) ∧
      (p.done = 0 → accessPosition d p = (x0, y0)) ∧
      (p.done + 1 = pixelCount d → accessPosition d p = (x1, y1))) ∧
    (∀ p q : Progress, p.done < pixelCount d → q.done < pixelCount d → accessPosition d p = accessPosition d q →
      p.done = q.done)

/-- An access of a running FILL, LINE or PLOT served while no higher client waits: its pixel takes the value of the operation
and no other pixel changes; with the last pixel the command is answered OK and the next is taken or the engine goes IDLE, with
the commands that present no access answered as they are taken (R133, R143, R146, R148, R150, R151, R154).
A FILL has the pixels of its rectangle cut at the surface's edges, row after row, and a PLOT its one pixel (R147, R148, R151);
the pixels of a LINE are those of LineTakesItsPixels. With its last pixel a FILL answers its cut width and height, a LINE
major + 1, a PLOT nothing (R154, Table 9-4). After the access no other is still under service from before; the two flags that
say so are the model's own (log entry 9). -/
def Obligations.EngineWritesItsPixel : Prop :=
  (∀ (op : DrawOp) (skip sync : Bool) (x y w h : Nat) (colour : Byte) (p : Progress),
    let d := DrawCmd.fill op skip sync x y w h colour
    let cw := min w (512 - x)
    let ch := min h (512 - y)
    drawCode d = 0x30#8 ∧ pixelCount d = cw * ch ∧ accessPosition d p = (x + p.done % cw, y + p.done / cw) ∧
    (1 ≤ cw → p.done = cw * ch → endState d p =
      [BitVec.ofNat 8 cw, BitVec.ofNat 8 (cw / 256), BitVec.ofNat 8 ch, BitVec.ofNat 8 (ch / 256), 0#8, 0#8])) ∧
  (∀ (op : DrawOp) (skip sync : Bool) (x0 y0 x1 y1 : Nat) (colour : Byte) (p : Progress),
    let d := DrawCmd.line op skip sync x0 y0 x1 y1 colour
    let count := (max |(x1 : Int) - x0| |(y1 : Int) - y0|).toNat + 1
    drawCode d = 0x32#8 ∧ pixelCount d = count ∧
    (p.done = count → endState d p = [BitVec.ofNat 8 count, BitVec.ofNat 8 (count / 256)])) ∧
  (∀ (op : DrawOp) (skip sync : Bool) (x y : Nat) (colour : Byte) (p : Progress),
    let d := DrawCmd.plot op skip sync x y colour
    drawCode d = 0x34#8 ∧ pixelCount d = 1 ∧ accessPosition d p = (x, y) ∧ endState d p = []) ∧
  ∀ (s : State) (e : DrawEntry) (p : Progress) (op : DrawOp) (colour : Byte), s.resetPin = false →
    s.engine.mode = .running e p → s.lines.fetching = false → s.port.transfer = none →
    (∃ skip sync x y w h, e.cmd = .fill op skip sync x y w h colour) ∨
      (∃ skip sync x0 y0 x1 y1, e.cmd = .line op skip sync x0 y0 x1 y1 colour) ∨
      (∃ skip sync x y, e.cmd = .plot op skip sync x y colour) →
    let x := (accessPosition e.cmd p).1
    let y := (accessPosition e.cmd p).2
    x ≤ 511 → y ≤ 511 →
    let old := s.pixel x y
    let value := match op with
      | .set => colour | .and => old &&& colour | .or => old ||| colour | .xor => old ^^^ colour | .invert => ~~~colour
    let written : State := { s with
      surface := Memory.write s.surface (512 * y + x) value
      arbiter := { portMayHold := false, engineMayHold := false } }
    (p.done + 1 < pixelCount e.cmd → exec .engineAccessServed s = .next { written with
      engine := { s.engine with mode := .running e { p with done := p.done + 1 } } }) ∧
    (pixelCount e.cmd ≤ p.done + 1 →
      let answered : State := { written with
        port := { s.port with responses := s.port.responses ++ [⟨e.tag, drawCode e.cmd, .ok,
          endState e.cmd { p with done := p.done + 1 }⟩] } }
      (s.engine.queue = [] → exec .engineAccessServed s =
        .next { answered with engine := { mode := .idle, queue := [] } }) ∧
      (∀ skipped tail, s.engine.queue = skipped ++ tail → SkipsTo skipped tail →
        exec .engineAccessServed s = .next (answered.takesNext skipped tail)) ∧
      (∀ e' rest, s.engine.queue = e' :: rest → drawSync e'.cmd = true → exec .engineAccessServed s =
        .next { answered with engine := { mode := .waiting e', queue := rest } }) ∧
      (∀ e' rest, s.engine.queue = e' :: rest → drawSync e'.cmd = false → presentsNothing e'.cmd = false →
        exec .engineAccessServed s = .next { answered with
          engine := { mode := .running e' Progress.none,
                      queue := rest } }))

/-- The reads of the engine: a SEEK goes on to the next column, or ends found or at the edge; a PROBE ends with the index read;
a COPY pixel is read, skipped where skip-zero meets a source of 0, and then written; with its last pixel a COPY is answered
OK with the cut width and height and its last rows. The Draw Queue stays as it is until the command ends, and the next command
is then taken from it (R143, R146, R149, R152, R153, R154). After an access no other is still under service from before; the
two flags that say so are the model's own (log entry 9). -/
def Obligations.EngineReadsForSeekProbeAndCopy : Prop :=
  ∀ (s : State) (tag : Byte) (p : Progress) (skipped tail : List DrawEntry), s.resetPin = false →
    s.lines.fetching = false → s.port.transfer = none → SkipsTo skipped tail →
    let queue := skipped ++ tail
    let thenNext := fun ended : State => (.next (ended.takesNext skipped tail) : Host.Outcome State Fault Refusal)
    let free := { portMayHold := false, engineMayHold := false : Arbiter }
    (∀ left differ sync x y value, x ≤ 511 → y ≤ 511 →
      let d := DrawCmd.seek left differ sync x y value
      let count := if left then x + 1 else 512 - x
      let column := if left then x - p.done else x + p.done
      p.done < count → s.engine = { mode := .running ⟨tag, d⟩ p, queue := queue } →
      let holds : Bool := (s.pixel column y == value) != differ
      (holds = false → p.done + 1 < count → exec .engineAccessServed s = .next { s with
        arbiter := free
        engine := { mode := .running ⟨tag, d⟩ { p with done := p.done + 1, found := false },
                    queue := queue } }) ∧
      (holds = true ∨ p.done + 1 = count → exec .engineAccessServed s = thenNext { s with
        arbiter := free
        port := { s.port with responses := s.port.responses ++ [⟨tag, 0x33#8, .ok,
          [if holds then 1#8 else 0#8, BitVec.ofNat 8 column,
            BitVec.ofNat 8 (column / 256), BitVec.ofNat 8 (p.done + 1),
            BitVec.ofNat 8 ((p.done + 1) / 256)]⟩] } })) ∧
    (∀ sync x y, x ≤ 511 → y ≤ 511 →
      s.engine = { mode := .running ⟨tag, .probe sync x y⟩ p, queue := queue } →
      exec .engineAccessServed s = thenNext { s with
        arbiter := free
        port := { s.port with responses := s.port.responses ++
          [⟨tag, 0x35#8, .ok, [s.pixel x y]⟩] } }) ∧
    (∀ op skip left up sync sx sy dx dy w h,
      let d := DrawCmd.copy op skip left up sync sx sy dx dy w h
      let cw := min w (min (512 - sx) (512 - dx))
      let ch := min h (min (512 - sy) (512 - dy))
      let column := if left then cw - 1 - p.done % cw else p.done % cw
      let row := if up then ch - 1 - p.done / cw else p.done / cw
      drawFits d = true → p.done < cw * ch →
      s.engine = { mode := .running ⟨tag, d⟩ p, queue := queue } →
      let last := if up then 0 else ch - 1
      let ended : Response := ⟨tag, 0x31#8, .ok,
        [BitVec.ofNat 8 cw, BitVec.ofNat 8 (cw / 256), BitVec.ofNat 8 ch, BitVec.ofNat 8 (ch / 256), 0#8, 0#8,
          BitVec.ofNat 8 (sy + last), BitVec.ofNat 8 ((sy + last) / 256), BitVec.ofNat 8 (dy + last),
          BitVec.ofNat 8 ((dy + last) / 256)]⟩
      (p.source = none → ¬(skip = true ∧ s.pixel (sx + column) (sy + row) = 0#8) →
        exec .engineAccessServed s = .next { s with
          arbiter := free
          engine := ⟨.running ⟨tag, d⟩ { p with source := some (s.pixel (sx + column) (sy + row)) }, queue⟩ }) ∧
      (p.source = none → skip = true → s.pixel (sx + column) (sy + row) = 0#8 →
        (p.done + 1 < cw * ch → exec .engineAccessServed s = .next { s with
          arbiter := free
          engine := { mode := .running ⟨tag, d⟩ { p with done := p.done + 1 }, queue := queue } }) ∧
        (p.done + 1 = cw * ch → exec .engineAccessServed s = thenNext { s with
          arbiter := free
          port := { s.port with responses := s.port.responses ++ [ended] } })) ∧
      (∀ source, p.source = some source →
        let written : State := { s with
          surface := Memory.write s.surface (512 * (dy + row) + (dx + column))
            (op.apply source (s.pixel (dx + column) (dy + row)))
          arbiter := free }
        (p.done + 1 < cw * ch → exec .engineAccessServed s = .next { written with
          engine := { mode := .running ⟨tag, d⟩ { p with done := p.done + 1, source := none },
                      queue := queue } }) ∧
        (p.done + 1 = cw * ch → exec .engineAccessServed s = thenNext { written with
          port := { s.port with responses := s.port.responses ++ [ended] } })))

/-- A FILL served to its end fills its rectangle, cut at the surface's edges: every pixel of it holds the operation's value, every
other pixel what it held, and the command is answered OK with the cut width and height (R146, R147, R148, R154). A FILL of
colour 0 with skip-zero never runs (R146). -/
def Obligations.FillFillsItsCutRectangle : Prop :=
  ∀ (s : State) (tag : Byte) (op : DrawOp) (skip sync : Bool) (x y w h : Nat) (colour : Byte), s.resetPin = false →
    s.lines.fetching = false → s.port.transfer = none → Memory.wf s.surface = true →
    x ≤ 511 → y ≤ 511 → 1 ≤ w → w ≤ 512 → 1 ≤ h → h ≤ 512 → skip = false ∨ colour ≠ 0#8 →
    s.engine = { mode := .running ⟨tag, .fill op skip sync x y w h colour⟩ Progress.none, queue := [] } →
    let cw := min w (512 - x)
    let ch := min h (512 - y)
    ∃ t, serveEngine (cw * ch) s = some t ∧ t.engine = { mode := .idle, queue := [] } ∧
      t.port = { s.port with responses := s.port.responses ++ [⟨tag, 0x30#8, .ok,
        [BitVec.ofNat 8 cw, BitVec.ofNat 8 (cw / 256), BitVec.ofNat 8 ch, BitVec.ofNat 8 (ch / 256), 0#8,
          0#8]⟩] } ∧
      ∀ i j, i ≤ 511 → j ≤ 511 →
        t.pixel i j = if x ≤ i ∧ i < x + cw ∧ y ≤ j ∧ j < y + ch then op.apply colour (s.pixel i j) else s.pixel i j

/-- DRAW ABORT by the engine's state: nothing in IDLE; a WAITING command answered ABORTED with zero progress; a running one
stopped at once, or after its pixel in progress; a second abort takes the commands accepted in between; the queued commands
answered after it, oldest first, with zero progress (R155).
The pixel in progress of a stopped command is served and counted, and then the responses enter together: the stopped
command's with its end state, then those of the queued commands; the engine goes IDLE, or takes the next of the commands
accepted in between (R143, R155, R156). That a COPY stopped after its source read still presents the destination access of that
pixel, as R155 and Table 9-7 say against R140, is the model's choice (log entry 32). The access that is being served as DRAW ABORT
arrives keeps the arbiter until it ends (R133); the operand names it, and counts where the arbiter may be serving that client and no other access is known to be under
service (log entry 9).
The end states are the bytes of Table 9-4. Stopped after some pixels, a FILL or COPY gives its cut width, the rows done and the
pixels done in the row after them, a COPY also the rows of its last pixel, or of its first with none processed; a LINE its
pixels done; a SEEK whether the test held, the last column examined and the columns examined; a PROBE the index read. With zero
progress every field is 0, but the rows of a COPY are those at which it would begin (R154, R155). -/
def Obligations.DrawAbortStopsTheEngine : Prop :=
  (let word := fun n : Nat => [BitVec.ofNat 8 n, BitVec.ofNat 8 (n / 256)]
   (∀ (op : DrawOp) (skip sync : Bool) (x y w h : Nat) (colour : Byte) (p : Progress),
      let d := DrawCmd.fill op skip sync x y w h colour
      let cw := min w (512 - x)
      zeroState d = [0#8, 0#8, 0#8, 0#8, 0#8, 0#8] ∧ endState d p = word cw ++ word (p.done / cw) ++ word (p.done % cw)) ∧
   (∀ (op : DrawOp) (skip left up sync : Bool) (sx sy dx dy w h : Nat) (p : Progress),
      let d := DrawCmd.copy op skip left up sync sx sy dx dy w h
      let cw := min w (min (512 - sx) (512 - dx))
      let ch := min h (min (512 - sy) (512 - dy))
      let first := if up then ch - 1 else 0
      let last := if p.done = 0 then first else if up then ch - 1 - (p.done - 1) / cw else (p.done - 1) / cw
      drawCode d = 0x31#8 ∧
      zeroState d = [0#8, 0#8, 0#8, 0#8, 0#8, 0#8] ++ word (sy + first) ++ word (dy + first) ∧
      endState d p = word cw ++ word (p.done / cw) ++ word (p.done % cw) ++ word (sy + last) ++ word (dy + last)) ∧
   (∀ (op : DrawOp) (skip sync : Bool) (x0 y0 x1 y1 : Nat) (colour : Byte) (p : Progress),
      let d := DrawCmd.line op skip sync x0 y0 x1 y1 colour
      zeroState d = [0#8, 0#8] ∧ endState d p = word p.done) ∧
   (∀ (left differ sync : Bool) (x y : Nat) (value : Byte) (p : Progress),
      let d := DrawCmd.seek left differ sync x y value
      let column := if p.done = 0 then x else if left then x - (p.done - 1) else x + (p.done - 1)
      drawCode d = 0x33#8 ∧ zeroState d = [0#8, 0#8, 0#8, 0#8, 0#8] ∧
      endState d p = [if p.found then 1#8 else 0#8] ++ word column ++ word p.done) ∧
   (∀ (op : DrawOp) (skip sync : Bool) (x y : Nat) (colour : Byte) (p : Progress),
      let d := DrawCmd.plot op skip sync x y colour
      zeroState d = [] ∧ endState d p = []) ∧
   (∀ (sync : Bool) (x y : Nat) (p : Progress),
      let d := DrawCmd.probe sync x y
      drawCode d = 0x35#8 ∧ zeroState d = [0#8] ∧ endState d p = [p.value])) ∧
  (∀ (op : DrawOp) (skip left up sync : Bool) (sx sy dx dy w h : Nat) (p : Progress) (old : Byte),
      let d := DrawCmd.copy op skip left up sync sx sy dx dy w h
      let cw := min w (min (512 - sx) (512 - dx))
      let ch := min h (min (512 - sy) (512 - dy))
      let column := if left then cw - 1 - p.done % cw else p.done % cw
      let row := if up then ch - 1 - p.done / cw else p.done / cw
      (p.source = none → accessPosition d p = (sx + column, sy + row) ∧ accessWrite d p old = none ∧
        progressAfter d p old = if skip = true ∧ old = 0#8 then { p with done := p.done + 1 }
          else { p with source := some old }) ∧
      (∀ source, p.source = some source → accessPosition d p = (dx + column, dy + row) ∧
        accessWrite d p old = some (op.apply source old) ∧
        progressAfter d p old = { p with done := p.done + 1, source := none })) ∧
  (∀ (left differ sync : Bool) (x y : Nat) (value : Byte) (p : Progress) (old : Byte),
      let d := DrawCmd.seek left differ sync x y value
      accessPosition d p = (if left then x - p.done else x + p.done, y) ∧ accessWrite d p old = none ∧
      progressAfter d p old = { p with done := p.done + 1, found := (old == value) != differ }) ∧
  (∀ (sync : Bool) (x y : Nat) (p : Progress) (old : Byte),
      let d := DrawCmd.probe sync x y
      accessPosition d p = (x, y) ∧ accessWrite d p old = none ∧
      progressAfter d p old = { p with done := p.done + 1, value := old }) ∧
  (∀ (d : DrawCmd) (op : DrawOp) (colour : Byte) (p : Progress) (old : Byte),
      (∃ skip sync x y w h, d = .fill op skip sync x y w h colour) ∨
        (∃ skip sync x0 y0 x1 y1, d = .line op skip sync x0 y0 x1 y1 colour) ∨
        (∃ skip sync x y, d = .plot op skip sync x y colour) →
      accessWrite d p old = some (op.apply colour old) ∧ progressAfter d p old = { p with done := p.done + 1 }) ∧
  (∀ (s : State) (inService : Option Client), s.resetPin = false →
      let zero := fun e : DrawEntry => (⟨e.tag, drawCode e.cmd, .aborted, zeroState e.cmd⟩ : Response)
      let holds : Arbiter := { portMayHold := false, engineMayHold := false, held := s.serving inService }
      (s.arbiter.held = none → s.serving none = none ∧ ∀ c, s.serving (some c) = if s.mayServe c then some c else none) ∧
      (∀ c, s.arbiter.held = some c → s.presents c = true → s.serving inService = some c) ∧
      (s.engine = { mode := .idle, queue := [] } →
        exec (.drawAbort inService) s = .next { s with arbiter := holds }) ∧
      (∀ e, s.engine.mode = .waiting e → exec (.drawAbort inService) s = .next { s with
        arbiter := holds
        engine := { mode := .idle, queue := [] }
        port := { s.port with responses := s.port.responses ++ [zero e] ++ s.engine.queue.map zero } }) ∧
      (∀ e p, s.engine.mode = .running e p → p.source = none → s.serving inService ≠ some .engine →
        exec (.drawAbort inService) s = .next { s with
          engine := { mode := .idle, queue := [] }
          arbiter := holds
          port := { s.port with responses := s.port.responses ++ [⟨e.tag, drawCode e.cmd, .aborted, endState e.cmd p⟩] ++
            (s.engine.queue.map zero) } }) ∧
      (∀ e p, s.engine.mode = .running e p →
        p.source ≠ none ∨ s.serving inService = some .engine →
        exec (.drawAbort inService) s = .next { s with
          arbiter := holds
          engine := { mode := .stopping e p s.engine.queue, queue := [] } }) ∧
      (∀ e p aborted, s.engine.mode = .stopping e p aborted → exec (.drawAbort inService) s = .next { s with
        arbiter := holds
        engine := { mode := .stopping e p (aborted ++ s.engine.queue), queue := [] } })) ∧
  (∀ (s : State) (e : DrawEntry) (p : Progress) (aborted skipped tail : List DrawEntry), s.resetPin = false →
      s.engine = { mode := .stopping e p aborted, queue := skipped ++ tail } → SkipsTo skipped tail → s.lines.fetching = false → s.port.transfer = none →
      s.engineFault = none →
      let thenNext := fun ended : State => (.next (ended.takesNext skipped tail) : Host.Outcome State Fault Refusal)
      let xy := accessPosition e.cmd p
      let after := progressAfter e.cmd p (s.pixel xy.1 xy.2)
      let surface := match accessWrite e.cmd p (s.pixel xy.1 xy.2) with
        | none => s.surface
        | some v => Memory.write s.surface (512 * xy.2 + xy.1) v
      (after.source = none → exec .engineAccessServed s = thenNext { s with
        surface := surface
        arbiter := { portMayHold := false, engineMayHold := false }
        port := { s.port with responses := s.port.responses ++
          [⟨e.tag, drawCode e.cmd, .aborted, endState e.cmd after⟩] ++
          (aborted.map fun a => ⟨a.tag, drawCode a.cmd, .aborted, zeroState a.cmd⟩) } }) ∧
      (after.source ≠ none → exec .engineAccessServed s = .next { s with
        surface := surface
        arbiter := { portMayHold := false, engineMayHold := false }
        engine := { mode := .stopping e after aborted, queue := skipped ++ tail } }))

/-! ### The whole machine -/

/-- A line mark at an unsynced station restarts the silence count and a running line timer, and changes neither the line
counter nor the frame number; no window opens and no list is formed, and of the Membership Unit only a detach pending takes
effect (R18, R30, R32, R33, R35, R64). The mark is taken at pixel time
4 of its line (R24); that the line timer counts on from a position already past it is the model's choice (log entry 4).
An unsynced station takes no part in the frame word, the announce places and the columns, and takes no edge of PICKTRIG
(R35, R98, R123). -/
def Obligations.UnsyncedStationTakesNoPart : Prop :=
  (∀ s : State, s.resetPin = false → s.link.edgeSeen = true → s.link.lmark ≠ some .frame → s.link.frameDriven = false →
    s.link.synced = false →
      ∃ t, exec .lineMark s = .next t ∧
        t.link.lineCounter = s.link.lineCounter ∧ t.link.frameNumber = s.link.frameNumber ∧ t.link.synced = false ∧
        t.link.silenceCount = 0 ∧ t.link.silencePixels = max 4 s.link.pixelTime ∧ t.link.edgeSeen = false ∧
        (¬(s.member.detachPending = true ∧ s.member.own = .member) → t.member = s.member ∧
          t.port.events.state = s.port.events.state) ∧
        (s.member.detachPending = true → s.member.own = .member → t.member = { s.member with
            own := .detached, listenCount := 0, windowWait := 0, admitted := false, detachPending := false
            announce := t.member.announce } ∧ t.port.events.state = oneMore s.port.events.state) ∧
        t.link.lineTimer = (if t.member.own.drives then some (max 4 s.link.pixelTime) else none) ∧
        t.port.events.slip = s.port.events.slip ∧ t.claim = s.claim ∧ t.lines = s.lines ∧ t.table = s.table ∧
        t.tints = s.tints ∧ t.output.palette = s.output.palette ∧ t.collisions = s.collisions ∧ t.picks = s.picks ∧
        t.surface = s.surface ∧ t.arbiter = s.arbiter ∧ t.engine = s.engine ∧ t.member.members = s.member.members) ∧
  (∀ s : State, s.link.synced = false →
      (∀ others, exec (.frameWord others) s = .next s ∧ exec (.announcePlace others) s = .next s) ∧
      (∀ rivals held join, exec (.columnResolved rivals held join) s = .next s) ∧
      exec .picktrigEdge s = .next s ∧
      (s.LinkSound → exec .fetchAccessServed s = .next s ∧ ∀ bids held, exec (.claimRound bids held) s = .next s))

/-- The reset state keeps every invariant stated below. -/
def Obligations.ResetIsSound : Prop :=
  State.reset.WithinCapacity ∧ State.reset.LinkSound ∧ State.reset.PlacesSound ∧ State.reset.ShapeSound ∧
  State.reset.OrderSound

/-- Every step keeps every collection within its capacity, the response budget among them, the fixed sizes, the surface's canonical
form, and the counts of the Event Set at 255 or less (R1, R11, R16, R20, R48, R79, R86, R100, R109, R119, R141, R160, R161,
R163, R166).
Every step keeps the grant list and the own grants in slot order and below the round to come, no pair granted twice, the rows
of the line buffer those of the first own grants in their order, and no pair key twice in the Collision Log (R72, R73, R79,
R86, R109). -/
def Obligations.StepKeepsTheSizes : Prop :=
  (∀ s t : State, s.WithinCapacity → step s = .next t → t.WithinCapacity) ∧
  (∀ s t : State, s.ShapeSound → step s = .next t → t.ShapeSound) ∧
  (∀ s t : State, s.OrderSound → step s = .next t → t.OrderSound)

/-- Every step keeps the Link Timing and Membership Units sound: the counter stays below T, the line timer runs exactly in the
driving states, and a station in any other state drives no line (R30, R32, R33, R41, R43, R48, R50, R58, R62, R64). -/
def Obligations.StepKeepsTheLinkSound : Prop :=
  ∀ s t : State, s.LinkSound → step s = .next t → t.LinkSound

/-- From every state whose stored records, copies, transfers and draw commands name places that exist, every step answers a next
state, with no fault and no refusal, and keeps it so (R1, R5, R11, R20, R88, R89, R131, R135, R137, R145, R147). -/
def Obligations.StepKeepsThePlacesSound : Prop :=
  ∀ s : State, s.PlacesSound → ∃ t, step s = .next t ∧ t.PlacesSound

end Statements
end

