-- ==== Sys2Proof/Laws/State.lean ====
section
/-! SUPPORT. What each named update of the state does to each of its blocks, so that no later proof unfolds a record update. -/

namespace Sys2Proof.Machine

/-! ### State.raise -/

@[simp] theorem State.raise_port_events (s : State) (k : EventKind) :
    (s.raise k).port.events = s.port.events.raise k := rfl
@[simp] theorem State.raise_port_commands (s : State) (k : EventKind) :
    (s.raise k).port.commands = s.port.commands := rfl
@[simp] theorem State.raise_port_responses (s : State) (k : EventKind) :
    (s.raise k).port.responses = s.port.responses := rfl
@[simp] theorem State.raise_port_transfer (s : State) (k : EventKind) :
    (s.raise k).port.transfer = s.port.transfer := rfl
@[simp] theorem State.raise_port_pdo (s : State) (k : EventKind) : (s.raise k).port.pdo = s.port.pdo := rfl
@[simp] theorem State.raise_resetPin (s : State) (k : EventKind) : (s.raise k).resetPin = s.resetPin := rfl
@[simp] theorem State.raise_straps (s : State) (k : EventKind) : (s.raise k).straps = s.straps := rfl
@[simp] theorem State.raise_table (s : State) (k : EventKind) : (s.raise k).table = s.table := rfl
@[simp] theorem State.raise_tints (s : State) (k : EventKind) : (s.raise k).tints = s.tints := rfl
@[simp] theorem State.raise_link (s : State) (k : EventKind) : (s.raise k).link = s.link := rfl
@[simp] theorem State.raise_member (s : State) (k : EventKind) : (s.raise k).member = s.member := rfl
@[simp] theorem State.raise_claim (s : State) (k : EventKind) : (s.raise k).claim = s.claim := rfl
@[simp] theorem State.raise_lines (s : State) (k : EventKind) : (s.raise k).lines = s.lines := rfl
@[simp] theorem State.raise_output (s : State) (k : EventKind) : (s.raise k).output = s.output := rfl
@[simp] theorem State.raise_collisions (s : State) (k : EventKind) : (s.raise k).collisions = s.collisions := rfl
@[simp] theorem State.raise_picks (s : State) (k : EventKind) : (s.raise k).picks = s.picks := rfl
@[simp] theorem State.raise_surface (s : State) (k : EventKind) : (s.raise k).surface = s.surface := rfl
@[simp] theorem State.raise_arbiter (s : State) (k : EventKind) : (s.raise k).arbiter = s.arbiter := rfl
@[simp] theorem State.raise_engine (s : State) (k : EventKind) : (s.raise k).engine = s.engine := rfl
@[simp] theorem State.raise_pending (s : State) (k : EventKind) : (s.raise k).pending = s.pending := rfl

/-! ### State.respond -/

@[simp] theorem State.respond_port_events (s : State) (tag code : Byte) (status : Status) (payload : List Byte) :
    (s.respond tag code status payload).port.events = s.port.events := rfl
@[simp] theorem State.respond_port_commands (s : State) (tag code : Byte) (status : Status) (payload : List Byte) :
    (s.respond tag code status payload).port.commands = s.port.commands := rfl
@[simp] theorem State.respond_port_responses (s : State) (tag code : Byte) (status : Status) (payload : List Byte) :
    (s.respond tag code status payload).port.responses = s.port.responses ++ [⟨tag, code, status, payload⟩] := rfl
@[simp] theorem State.respond_port_transfer (s : State) (tag code : Byte) (status : Status) (payload : List Byte) :
    (s.respond tag code status payload).port.transfer = s.port.transfer := rfl
@[simp] theorem State.respond_port_pdo (s : State) (tag code : Byte) (status : Status) (payload : List Byte) :
    (s.respond tag code status payload).port.pdo = s.port.pdo := rfl
@[simp] theorem State.respond_resetPin (s : State) (tag code : Byte) (status : Status) (payload : List Byte) :
    (s.respond tag code status payload).resetPin = s.resetPin := rfl
@[simp] theorem State.respond_straps (s : State) (tag code : Byte) (status : Status) (payload : List Byte) :
    (s.respond tag code status payload).straps = s.straps := rfl
@[simp] theorem State.respond_table (s : State) (tag code : Byte) (status : Status) (payload : List Byte) :
    (s.respond tag code status payload).table = s.table := rfl
@[simp] theorem State.respond_tints (s : State) (tag code : Byte) (status : Status) (payload : List Byte) :
    (s.respond tag code status payload).tints = s.tints := rfl
@[simp] theorem State.respond_link (s : State) (tag code : Byte) (status : Status) (payload : List Byte) :
    (s.respond tag code status payload).link = s.link := rfl
@[simp] theorem State.respond_member (s : State) (tag code : Byte) (status : Status) (payload : List Byte) :
    (s.respond tag code status payload).member = s.member := rfl
@[simp] theorem State.respond_claim (s : State) (tag code : Byte) (status : Status) (payload : List Byte) :
    (s.respond tag code status payload).claim = s.claim := rfl
@[simp] theorem State.respond_lines (s : State) (tag code : Byte) (status : Status) (payload : List Byte) :
    (s.respond tag code status payload).lines = s.lines := rfl
@[simp] theorem State.respond_output (s : State) (tag code : Byte) (status : Status) (payload : List Byte) :
    (s.respond tag code status payload).output = s.output := rfl
@[simp] theorem State.respond_collisions (s : State) (tag code : Byte) (status : Status) (payload : List Byte) :
    (s.respond tag code status payload).collisions = s.collisions := rfl
@[simp] theorem State.respond_picks (s : State) (tag code : Byte) (status : Status) (payload : List Byte) :
    (s.respond tag code status payload).picks = s.picks := rfl
@[simp] theorem State.respond_surface (s : State) (tag code : Byte) (status : Status) (payload : List Byte) :
    (s.respond tag code status payload).surface = s.surface := rfl
@[simp] theorem State.respond_arbiter (s : State) (tag code : Byte) (status : Status) (payload : List Byte) :
    (s.respond tag code status payload).arbiter = s.arbiter := rfl
@[simp] theorem State.respond_engine (s : State) (tag code : Byte) (status : Status) (payload : List Byte) :
    (s.respond tag code status payload).engine = s.engine := rfl
@[simp] theorem State.respond_pending (s : State) (tag code : Byte) (status : Status) (payload : List Byte) :
    (s.respond tag code status payload).pending = s.pending := rfl

/-! ### State.answer -/

theorem State.answer_eq_respond (s : State) (e : Entry) (status : Status) (payload : List Byte) :
    s.answer e status payload = s.respond e.tag e.code status payload := rfl
@[simp] theorem State.answer_resetPin (s : State) (e : Entry) (status : Status) (payload : List Byte) :
    (s.answer e status payload).resetPin = s.resetPin := rfl
@[simp] theorem State.answer_straps (s : State) (e : Entry) (status : Status) (payload : List Byte) :
    (s.answer e status payload).straps = s.straps := rfl
@[simp] theorem State.answer_table (s : State) (e : Entry) (status : Status) (payload : List Byte) :
    (s.answer e status payload).table = s.table := rfl
@[simp] theorem State.answer_tints (s : State) (e : Entry) (status : Status) (payload : List Byte) :
    (s.answer e status payload).tints = s.tints := rfl
@[simp] theorem State.answer_link (s : State) (e : Entry) (status : Status) (payload : List Byte) :
    (s.answer e status payload).link = s.link := rfl
@[simp] theorem State.answer_member (s : State) (e : Entry) (status : Status) (payload : List Byte) :
    (s.answer e status payload).member = s.member := rfl
@[simp] theorem State.answer_claim (s : State) (e : Entry) (status : Status) (payload : List Byte) :
    (s.answer e status payload).claim = s.claim := rfl
@[simp] theorem State.answer_lines (s : State) (e : Entry) (status : Status) (payload : List Byte) :
    (s.answer e status payload).lines = s.lines := rfl
@[simp] theorem State.answer_output (s : State) (e : Entry) (status : Status) (payload : List Byte) :
    (s.answer e status payload).output = s.output := rfl
@[simp] theorem State.answer_collisions (s : State) (e : Entry) (status : Status) (payload : List Byte) :
    (s.answer e status payload).collisions = s.collisions := rfl
@[simp] theorem State.answer_picks (s : State) (e : Entry) (status : Status) (payload : List Byte) :
    (s.answer e status payload).picks = s.picks := rfl
@[simp] theorem State.answer_surface (s : State) (e : Entry) (status : Status) (payload : List Byte) :
    (s.answer e status payload).surface = s.surface := rfl
@[simp] theorem State.answer_arbiter (s : State) (e : Entry) (status : Status) (payload : List Byte) :
    (s.answer e status payload).arbiter = s.arbiter := rfl
@[simp] theorem State.answer_engine (s : State) (e : Entry) (status : Status) (payload : List Byte) :
    (s.answer e status payload).engine = s.engine := rfl
@[simp] theorem State.answer_pending (s : State) (e : Entry) (status : Status) (payload : List Byte) :
    (s.answer e status payload).pending = s.pending := rfl

/-! ### State.dropHead -/

@[simp] theorem State.dropHead_port_commands (s : State) : s.dropHead.port.commands = s.port.commands.tail := rfl
@[simp] theorem State.dropHead_port_events (s : State) : s.dropHead.port.events = s.port.events := rfl
@[simp] theorem State.dropHead_port_responses (s : State) : s.dropHead.port.responses = s.port.responses := rfl
@[simp] theorem State.dropHead_port_transfer (s : State) : s.dropHead.port.transfer = s.port.transfer := rfl
@[simp] theorem State.dropHead_port_pdo (s : State) : s.dropHead.port.pdo = s.port.pdo := rfl
@[simp] theorem State.dropHead_resetPin (s : State) : s.dropHead.resetPin = s.resetPin := rfl
@[simp] theorem State.dropHead_straps (s : State) : s.dropHead.straps = s.straps := rfl
@[simp] theorem State.dropHead_table (s : State) : s.dropHead.table = s.table := rfl
@[simp] theorem State.dropHead_tints (s : State) : s.dropHead.tints = s.tints := rfl
@[simp] theorem State.dropHead_link (s : State) : s.dropHead.link = s.link := rfl
@[simp] theorem State.dropHead_member (s : State) : s.dropHead.member = s.member := rfl
@[simp] theorem State.dropHead_claim (s : State) : s.dropHead.claim = s.claim := rfl
@[simp] theorem State.dropHead_lines (s : State) : s.dropHead.lines = s.lines := rfl
@[simp] theorem State.dropHead_output (s : State) : s.dropHead.output = s.output := rfl
@[simp] theorem State.dropHead_collisions (s : State) : s.dropHead.collisions = s.collisions := rfl
@[simp] theorem State.dropHead_picks (s : State) : s.dropHead.picks = s.picks := rfl
@[simp] theorem State.dropHead_surface (s : State) : s.dropHead.surface = s.surface := rfl
@[simp] theorem State.dropHead_arbiter (s : State) : s.dropHead.arbiter = s.arbiter := rfl
@[simp] theorem State.dropHead_engine (s : State) : s.dropHead.engine = s.engine := rfl
@[simp] theorem State.dropHead_pending (s : State) : s.dropHead.pending = s.pending := rfl

/-! ### State.without -/

@[simp] theorem State.without_port_commands (s : State) (rest : List Entry) :
    (s.without rest).port.commands = rest := rfl
@[simp] theorem State.without_port_events (s : State) (rest : List Entry) :
    (s.without rest).port.events = s.port.events := rfl
@[simp] theorem State.without_port_responses (s : State) (rest : List Entry) :
    (s.without rest).port.responses = s.port.responses := rfl
@[simp] theorem State.without_port_transfer (s : State) (rest : List Entry) :
    (s.without rest).port.transfer = s.port.transfer := rfl
@[simp] theorem State.without_port_pdo (s : State) (rest : List Entry) : (s.without rest).port.pdo = s.port.pdo := rfl
@[simp] theorem State.without_resetPin (s : State) (rest : List Entry) : (s.without rest).resetPin = s.resetPin := rfl
@[simp] theorem State.without_straps (s : State) (rest : List Entry) : (s.without rest).straps = s.straps := rfl
@[simp] theorem State.without_table (s : State) (rest : List Entry) : (s.without rest).table = s.table := rfl
@[simp] theorem State.without_tints (s : State) (rest : List Entry) : (s.without rest).tints = s.tints := rfl
@[simp] theorem State.without_link (s : State) (rest : List Entry) : (s.without rest).link = s.link := rfl
@[simp] theorem State.without_member (s : State) (rest : List Entry) : (s.without rest).member = s.member := rfl
@[simp] theorem State.without_claim (s : State) (rest : List Entry) : (s.without rest).claim = s.claim := rfl
@[simp] theorem State.without_lines (s : State) (rest : List Entry) : (s.without rest).lines = s.lines := rfl
@[simp] theorem State.without_output (s : State) (rest : List Entry) : (s.without rest).output = s.output := rfl
@[simp] theorem State.without_collisions (s : State) (rest : List Entry) :
    (s.without rest).collisions = s.collisions := rfl
@[simp] theorem State.without_picks (s : State) (rest : List Entry) : (s.without rest).picks = s.picks := rfl
@[simp] theorem State.without_surface (s : State) (rest : List Entry) : (s.without rest).surface = s.surface := rfl
@[simp] theorem State.without_arbiter (s : State) (rest : List Entry) : (s.without rest).arbiter = s.arbiter := rfl
@[simp] theorem State.without_engine (s : State) (rest : List Entry) : (s.without rest).engine = s.engine := rfl
@[simp] theorem State.without_pending (s : State) (rest : List Entry) : (s.without rest).pending = s.pending := rfl

/-! ### State.answered -/

theorem State.answered_eq_answer (s : State) (e : Entry) (rest : List Entry) (status : Status) (payload : List Byte) :
    (s.without rest).answer e status payload = s.answered e rest status payload := rfl
@[simp] theorem State.answered_resetPin (s : State) (e : Entry) (rest : List Entry) (status : Status) (payload : List Byte) :
    (s.answered e rest status payload).resetPin = s.resetPin := rfl
@[simp] theorem State.answered_straps (s : State) (e : Entry) (rest : List Entry) (status : Status) (payload : List Byte) :
    (s.answered e rest status payload).straps = s.straps := rfl
@[simp] theorem State.answered_table (s : State) (e : Entry) (rest : List Entry) (status : Status) (payload : List Byte) :
    (s.answered e rest status payload).table = s.table := rfl
@[simp] theorem State.answered_tints (s : State) (e : Entry) (rest : List Entry) (status : Status) (payload : List Byte) :
    (s.answered e rest status payload).tints = s.tints := rfl
@[simp] theorem State.answered_link (s : State) (e : Entry) (rest : List Entry) (status : Status) (payload : List Byte) :
    (s.answered e rest status payload).link = s.link := rfl
@[simp] theorem State.answered_member (s : State) (e : Entry) (rest : List Entry) (status : Status) (payload : List Byte) :
    (s.answered e rest status payload).member = s.member := rfl
@[simp] theorem State.answered_claim (s : State) (e : Entry) (rest : List Entry) (status : Status) (payload : List Byte) :
    (s.answered e rest status payload).claim = s.claim := rfl
@[simp] theorem State.answered_lines (s : State) (e : Entry) (rest : List Entry) (status : Status) (payload : List Byte) :
    (s.answered e rest status payload).lines = s.lines := rfl
@[simp] theorem State.answered_output (s : State) (e : Entry) (rest : List Entry) (status : Status) (payload : List Byte) :
    (s.answered e rest status payload).output = s.output := rfl
@[simp] theorem State.answered_collisions (s : State) (e : Entry) (rest : List Entry) (status : Status) (payload : List Byte) :
    (s.answered e rest status payload).collisions = s.collisions := rfl
@[simp] theorem State.answered_picks (s : State) (e : Entry) (rest : List Entry) (status : Status) (payload : List Byte) :
    (s.answered e rest status payload).picks = s.picks := rfl
@[simp] theorem State.answered_surface (s : State) (e : Entry) (rest : List Entry) (status : Status) (payload : List Byte) :
    (s.answered e rest status payload).surface = s.surface := rfl
@[simp] theorem State.answered_arbiter (s : State) (e : Entry) (rest : List Entry) (status : Status) (payload : List Byte) :
    (s.answered e rest status payload).arbiter = s.arbiter := rfl
@[simp] theorem State.answered_engine (s : State) (e : Entry) (rest : List Entry) (status : Status) (payload : List Byte) :
    (s.answered e rest status payload).engine = s.engine := rfl
@[simp] theorem State.answered_pending (s : State) (e : Entry) (rest : List Entry) (status : Status) (payload : List Byte) :
    (s.answered e rest status payload).pending = s.pending := rfl

/-! ### State.send -/

@[simp] theorem State.send_port_pdo (s : State) (bytes : List Byte) : (s.send bytes).port.pdo = bytes := rfl
@[simp] theorem State.send_port_commands (s : State) (bytes : List Byte) :
    (s.send bytes).port.commands = s.port.commands := rfl
@[simp] theorem State.send_port_events (s : State) (bytes : List Byte) :
    (s.send bytes).port.events = s.port.events := rfl
@[simp] theorem State.send_port_responses (s : State) (bytes : List Byte) :
    (s.send bytes).port.responses = s.port.responses := rfl
@[simp] theorem State.send_port_transfer (s : State) (bytes : List Byte) :
    (s.send bytes).port.transfer = s.port.transfer := rfl
@[simp] theorem State.send_resetPin (s : State) (bytes : List Byte) : (s.send bytes).resetPin = s.resetPin := rfl
@[simp] theorem State.send_straps (s : State) (bytes : List Byte) : (s.send bytes).straps = s.straps := rfl
@[simp] theorem State.send_table (s : State) (bytes : List Byte) : (s.send bytes).table = s.table := rfl
@[simp] theorem State.send_tints (s : State) (bytes : List Byte) : (s.send bytes).tints = s.tints := rfl
@[simp] theorem State.send_link (s : State) (bytes : List Byte) : (s.send bytes).link = s.link := rfl
@[simp] theorem State.send_member (s : State) (bytes : List Byte) : (s.send bytes).member = s.member := rfl
@[simp] theorem State.send_claim (s : State) (bytes : List Byte) : (s.send bytes).claim = s.claim := rfl
@[simp] theorem State.send_lines (s : State) (bytes : List Byte) : (s.send bytes).lines = s.lines := rfl
@[simp] theorem State.send_output (s : State) (bytes : List Byte) : (s.send bytes).output = s.output := rfl
@[simp] theorem State.send_collisions (s : State) (bytes : List Byte) : (s.send bytes).collisions = s.collisions := rfl
@[simp] theorem State.send_picks (s : State) (bytes : List Byte) : (s.send bytes).picks = s.picks := rfl
@[simp] theorem State.send_surface (s : State) (bytes : List Byte) : (s.send bytes).surface = s.surface := rfl
@[simp] theorem State.send_arbiter (s : State) (bytes : List Byte) : (s.send bytes).arbiter = s.arbiter := rfl
@[simp] theorem State.send_engine (s : State) (bytes : List Byte) : (s.send bytes).engine = s.engine := rfl
@[simp] theorem State.send_pending (s : State) (bytes : List Byte) : (s.send bytes).pending = s.pending := rfl

/-! ### State.setPixel -/

@[simp] theorem State.setPixel_surface (s : State) (x y : Nat) (v : Byte) :
    (s.setPixel x y v).surface = Memory.write s.surface (pixelAddress x y) v := rfl
@[simp] theorem State.setPixel_resetPin (s : State) (x y : Nat) (v : Byte) :
    (s.setPixel x y v).resetPin = s.resetPin := rfl
@[simp] theorem State.setPixel_straps (s : State) (x y : Nat) (v : Byte) : (s.setPixel x y v).straps = s.straps := rfl
@[simp] theorem State.setPixel_port (s : State) (x y : Nat) (v : Byte) : (s.setPixel x y v).port = s.port := rfl
@[simp] theorem State.setPixel_table (s : State) (x y : Nat) (v : Byte) : (s.setPixel x y v).table = s.table := rfl
@[simp] theorem State.setPixel_tints (s : State) (x y : Nat) (v : Byte) : (s.setPixel x y v).tints = s.tints := rfl
@[simp] theorem State.setPixel_link (s : State) (x y : Nat) (v : Byte) : (s.setPixel x y v).link = s.link := rfl
@[simp] theorem State.setPixel_member (s : State) (x y : Nat) (v : Byte) : (s.setPixel x y v).member = s.member := rfl
@[simp] theorem State.setPixel_claim (s : State) (x y : Nat) (v : Byte) : (s.setPixel x y v).claim = s.claim := rfl
@[simp] theorem State.setPixel_lines (s : State) (x y : Nat) (v : Byte) : (s.setPixel x y v).lines = s.lines := rfl
@[simp] theorem State.setPixel_output (s : State) (x y : Nat) (v : Byte) : (s.setPixel x y v).output = s.output := rfl
@[simp] theorem State.setPixel_collisions (s : State) (x y : Nat) (v : Byte) :
    (s.setPixel x y v).collisions = s.collisions := rfl
@[simp] theorem State.setPixel_picks (s : State) (x y : Nat) (v : Byte) : (s.setPixel x y v).picks = s.picks := rfl
@[simp] theorem State.setPixel_arbiter (s : State) (x y : Nat) (v : Byte) :
    (s.setPixel x y v).arbiter = s.arbiter := rfl
@[simp] theorem State.setPixel_engine (s : State) (x y : Nat) (v : Byte) : (s.setPixel x y v).engine = s.engine := rfl
@[simp] theorem State.setPixel_pending (s : State) (x y : Nat) (v : Byte) :
    (s.setPixel x y v).pending = s.pending := rfl

/-! ### State.hold -/

@[simp] theorem State.hold_arbiter (s : State) (named : Option Client) :
    (s.hold named).arbiter = { portMayHold := false, engineMayHold := false, held := s.serving named } := rfl
@[simp] theorem State.hold_resetPin (s : State) (named : Option Client) : (s.hold named).resetPin = s.resetPin := rfl
@[simp] theorem State.hold_straps (s : State) (named : Option Client) : (s.hold named).straps = s.straps := rfl
@[simp] theorem State.hold_port (s : State) (named : Option Client) : (s.hold named).port = s.port := rfl
@[simp] theorem State.hold_table (s : State) (named : Option Client) : (s.hold named).table = s.table := rfl
@[simp] theorem State.hold_tints (s : State) (named : Option Client) : (s.hold named).tints = s.tints := rfl
@[simp] theorem State.hold_link (s : State) (named : Option Client) : (s.hold named).link = s.link := rfl
@[simp] theorem State.hold_member (s : State) (named : Option Client) : (s.hold named).member = s.member := rfl
@[simp] theorem State.hold_claim (s : State) (named : Option Client) : (s.hold named).claim = s.claim := rfl
@[simp] theorem State.hold_lines (s : State) (named : Option Client) : (s.hold named).lines = s.lines := rfl
@[simp] theorem State.hold_output (s : State) (named : Option Client) : (s.hold named).output = s.output := rfl
@[simp] theorem State.hold_collisions (s : State) (named : Option Client) :
    (s.hold named).collisions = s.collisions := rfl
@[simp] theorem State.hold_picks (s : State) (named : Option Client) : (s.hold named).picks = s.picks := rfl
@[simp] theorem State.hold_surface (s : State) (named : Option Client) : (s.hold named).surface = s.surface := rfl
@[simp] theorem State.hold_engine (s : State) (named : Option Client) : (s.hold named).engine = s.engine := rfl
@[simp] theorem State.hold_pending (s : State) (named : Option Client) : (s.hold named).pending = s.pending := rfl

/-! ### State.served -/

@[simp] theorem State.served_arbiter (s : State) :
    s.served.arbiter = { portMayHold := false, engineMayHold := false, held := none } := rfl
@[simp] theorem State.served_resetPin (s : State) : s.served.resetPin = s.resetPin := rfl
@[simp] theorem State.served_straps (s : State) : s.served.straps = s.straps := rfl
@[simp] theorem State.served_port (s : State) : s.served.port = s.port := rfl
@[simp] theorem State.served_table (s : State) : s.served.table = s.table := rfl
@[simp] theorem State.served_tints (s : State) : s.served.tints = s.tints := rfl
@[simp] theorem State.served_link (s : State) : s.served.link = s.link := rfl
@[simp] theorem State.served_member (s : State) : s.served.member = s.member := rfl
@[simp] theorem State.served_claim (s : State) : s.served.claim = s.claim := rfl
@[simp] theorem State.served_lines (s : State) : s.served.lines = s.lines := rfl
@[simp] theorem State.served_output (s : State) : s.served.output = s.output := rfl
@[simp] theorem State.served_collisions (s : State) : s.served.collisions = s.collisions := rfl
@[simp] theorem State.served_picks (s : State) : s.served.picks = s.picks := rfl
@[simp] theorem State.served_surface (s : State) : s.served.surface = s.surface := rfl
@[simp] theorem State.served_engine (s : State) : s.served.engine = s.engine := rfl
@[simp] theorem State.served_pending (s : State) : s.served.pending = s.pending := rfl

/-! ### State.portPresents -/

@[simp] theorem State.portPresents_arbiter (s : State) :
    s.portPresents.arbiter = { s.arbiter with engineMayHold := s.mayServe .engine } := rfl
@[simp] theorem State.portPresents_resetPin (s : State) : s.portPresents.resetPin = s.resetPin := rfl
@[simp] theorem State.portPresents_straps (s : State) : s.portPresents.straps = s.straps := rfl
@[simp] theorem State.portPresents_port (s : State) : s.portPresents.port = s.port := rfl
@[simp] theorem State.portPresents_table (s : State) : s.portPresents.table = s.table := rfl
@[simp] theorem State.portPresents_tints (s : State) : s.portPresents.tints = s.tints := rfl
@[simp] theorem State.portPresents_link (s : State) : s.portPresents.link = s.link := rfl
@[simp] theorem State.portPresents_member (s : State) : s.portPresents.member = s.member := rfl
@[simp] theorem State.portPresents_claim (s : State) : s.portPresents.claim = s.claim := rfl
@[simp] theorem State.portPresents_lines (s : State) : s.portPresents.lines = s.lines := rfl
@[simp] theorem State.portPresents_output (s : State) : s.portPresents.output = s.output := rfl
@[simp] theorem State.portPresents_collisions (s : State) : s.portPresents.collisions = s.collisions := rfl
@[simp] theorem State.portPresents_picks (s : State) : s.portPresents.picks = s.picks := rfl
@[simp] theorem State.portPresents_surface (s : State) : s.portPresents.surface = s.surface := rfl
@[simp] theorem State.portPresents_engine (s : State) : s.portPresents.engine = s.engine := rfl
@[simp] theorem State.portPresents_pending (s : State) : s.portPresents.pending = s.pending := rfl

/-! ### State.fetchPresents -/

@[simp] theorem State.fetchPresents_arbiter (s : State) :
    s.fetchPresents.arbiter = { portMayHold := s.mayServe .port, engineMayHold := s.mayServe .engine, held := s.heldClient } := rfl
@[simp] theorem State.fetchPresents_resetPin (s : State) : s.fetchPresents.resetPin = s.resetPin := rfl
@[simp] theorem State.fetchPresents_straps (s : State) : s.fetchPresents.straps = s.straps := rfl
@[simp] theorem State.fetchPresents_port (s : State) : s.fetchPresents.port = s.port := rfl
@[simp] theorem State.fetchPresents_table (s : State) : s.fetchPresents.table = s.table := rfl
@[simp] theorem State.fetchPresents_tints (s : State) : s.fetchPresents.tints = s.tints := rfl
@[simp] theorem State.fetchPresents_link (s : State) : s.fetchPresents.link = s.link := rfl
@[simp] theorem State.fetchPresents_member (s : State) : s.fetchPresents.member = s.member := rfl
@[simp] theorem State.fetchPresents_claim (s : State) : s.fetchPresents.claim = s.claim := rfl
@[simp] theorem State.fetchPresents_lines (s : State) : s.fetchPresents.lines = s.lines := rfl
@[simp] theorem State.fetchPresents_output (s : State) : s.fetchPresents.output = s.output := rfl
@[simp] theorem State.fetchPresents_collisions (s : State) : s.fetchPresents.collisions = s.collisions := rfl
@[simp] theorem State.fetchPresents_picks (s : State) : s.fetchPresents.picks = s.picks := rfl
@[simp] theorem State.fetchPresents_surface (s : State) : s.fetchPresents.surface = s.surface := rfl
@[simp] theorem State.fetchPresents_engine (s : State) : s.fetchPresents.engine = s.engine := rfl
@[simp] theorem State.fetchPresents_pending (s : State) : s.fetchPresents.pending = s.pending := rfl

/-! ### State.drive -/

@[simp] theorem State.drive_link (s : State) (w : Lines) :
    (s.drive w).link = { s.link with ldata := w, ldataJoin := released } := rfl
@[simp] theorem State.drive_resetPin (s : State) (w : Lines) : (s.drive w).resetPin = s.resetPin := rfl
@[simp] theorem State.drive_straps (s : State) (w : Lines) : (s.drive w).straps = s.straps := rfl
@[simp] theorem State.drive_port (s : State) (w : Lines) : (s.drive w).port = s.port := rfl
@[simp] theorem State.drive_table (s : State) (w : Lines) : (s.drive w).table = s.table := rfl
@[simp] theorem State.drive_tints (s : State) (w : Lines) : (s.drive w).tints = s.tints := rfl
@[simp] theorem State.drive_member (s : State) (w : Lines) : (s.drive w).member = s.member := rfl
@[simp] theorem State.drive_claim (s : State) (w : Lines) : (s.drive w).claim = s.claim := rfl
@[simp] theorem State.drive_lines (s : State) (w : Lines) : (s.drive w).lines = s.lines := rfl
@[simp] theorem State.drive_output (s : State) (w : Lines) : (s.drive w).output = s.output := rfl
@[simp] theorem State.drive_collisions (s : State) (w : Lines) : (s.drive w).collisions = s.collisions := rfl
@[simp] theorem State.drive_picks (s : State) (w : Lines) : (s.drive w).picks = s.picks := rfl
@[simp] theorem State.drive_surface (s : State) (w : Lines) : (s.drive w).surface = s.surface := rfl
@[simp] theorem State.drive_arbiter (s : State) (w : Lines) : (s.drive w).arbiter = s.arbiter := rfl
@[simp] theorem State.drive_engine (s : State) (w : Lines) : (s.drive w).engine = s.engine := rfl
@[simp] theorem State.drive_pending (s : State) (w : Lines) : (s.drive w).pending = s.pending := rfl

/-! ### State.releaseLines -/

@[simp] theorem State.releaseLines_link (s : State) :
    s.releaseLines.link = { s.link with lmark := none, frameDriven := s.link.frameStood, ldata := released, ldataJoin := released } := rfl
@[simp] theorem State.releaseLines_resetPin (s : State) : s.releaseLines.resetPin = s.resetPin := rfl
@[simp] theorem State.releaseLines_straps (s : State) : s.releaseLines.straps = s.straps := rfl
@[simp] theorem State.releaseLines_port (s : State) : s.releaseLines.port = s.port := rfl
@[simp] theorem State.releaseLines_table (s : State) : s.releaseLines.table = s.table := rfl
@[simp] theorem State.releaseLines_tints (s : State) : s.releaseLines.tints = s.tints := rfl
@[simp] theorem State.releaseLines_member (s : State) : s.releaseLines.member = s.member := rfl
@[simp] theorem State.releaseLines_claim (s : State) : s.releaseLines.claim = s.claim := rfl
@[simp] theorem State.releaseLines_lines (s : State) : s.releaseLines.lines = s.lines := rfl
@[simp] theorem State.releaseLines_output (s : State) : s.releaseLines.output = s.output := rfl
@[simp] theorem State.releaseLines_collisions (s : State) : s.releaseLines.collisions = s.collisions := rfl
@[simp] theorem State.releaseLines_picks (s : State) : s.releaseLines.picks = s.picks := rfl
@[simp] theorem State.releaseLines_surface (s : State) : s.releaseLines.surface = s.surface := rfl
@[simp] theorem State.releaseLines_arbiter (s : State) : s.releaseLines.arbiter = s.arbiter := rfl
@[simp] theorem State.releaseLines_engine (s : State) : s.releaseLines.engine = s.engine := rfl
@[simp] theorem State.releaseLines_pending (s : State) : s.releaseLines.pending = s.pending := rfl

/-! ### State.passTime -/

@[simp] theorem State.passTime_link_pixelTime (s : State) (n : Nat) :
    (s.passTime n).link.pixelTime = s.link.pixelTime + n := rfl
@[simp] theorem State.passTime_link_lineCounter (s : State) (n : Nat) :
    (s.passTime n).link.lineCounter = s.link.lineCounter := rfl
@[simp] theorem State.passTime_link_frameNumber (s : State) (n : Nat) :
    (s.passTime n).link.frameNumber = s.link.frameNumber := rfl
@[simp] theorem State.passTime_link_synced (s : State) (n : Nat) : (s.passTime n).link.synced = s.link.synced := rfl
@[simp] theorem State.passTime_link_edgeSeen (s : State) (n : Nat) :
    (s.passTime n).link.edgeSeen = s.link.edgeSeen := rfl
@[simp] theorem State.passTime_link_frameDriven (s : State) (n : Nat) :
    (s.passTime n).link.frameDriven = s.link.frameDriven := rfl
@[simp] theorem State.passTime_link_ldata (s : State) (n : Nat) : (s.passTime n).link.ldata = released := rfl
@[simp] theorem State.passTime_link_ldataJoin (s : State) (n : Nat) : (s.passTime n).link.ldataJoin = released := rfl
@[simp] theorem State.passTime_link_lmark (s : State) (n : Nat) :
    (s.passTime n).link.lmark = s.link.lmark.filter fun k => decide (s.link.pixelTime + n < markLength k) := rfl
@[simp] theorem State.passTime_link_lineTimer (s : State) (n : Nat) :
    (s.passTime n).link.lineTimer = s.link.lineTimer.map fun t => min s.geometry.linePixels (t + n) := rfl
@[simp] theorem State.passTime_link_silencePixels (s : State) (n : Nat) :
    (s.passTime n).link.silencePixels = (s.link.silencePixels + n) % s.geometry.linePixels := rfl
@[simp] theorem State.passTime_link_silenceCount (s : State) (n : Nat) :
    (s.passTime n).link.silenceCount = min (2 * s.geometry.totalLines) (s.link.silenceCount + (s.link.silencePixels + n) / s.geometry.linePixels) := rfl
@[simp] theorem State.passTime_output_palette (s : State) (n : Nat) :
    (s.passTime n).output.palette = s.output.palette := rfl
@[simp] theorem State.passTime_output_rgb (s : State) (n : Nat) : (s.passTime n).output.rgb = .black := rfl
@[simp] theorem State.passTime_output_hsync (s : State) (n : Nat) :
    (s.passTime n).output.hsync = (s.output.hsync && decide (s.link.pixelTime + n < 8)) := rfl
@[simp] theorem State.passTime_resetPin (s : State) (n : Nat) : (s.passTime n).resetPin = s.resetPin := rfl
@[simp] theorem State.passTime_straps (s : State) (n : Nat) : (s.passTime n).straps = s.straps := rfl
@[simp] theorem State.passTime_port (s : State) (n : Nat) : (s.passTime n).port = s.port := rfl
@[simp] theorem State.passTime_table (s : State) (n : Nat) : (s.passTime n).table = s.table := rfl
@[simp] theorem State.passTime_tints (s : State) (n : Nat) : (s.passTime n).tints = s.tints := rfl
@[simp] theorem State.passTime_member (s : State) (n : Nat) : (s.passTime n).member = s.member := rfl
@[simp] theorem State.passTime_claim (s : State) (n : Nat) : (s.passTime n).claim = s.claim := rfl
@[simp] theorem State.passTime_lines (s : State) (n : Nat) : (s.passTime n).lines = s.lines := rfl
@[simp] theorem State.passTime_collisions (s : State) (n : Nat) : (s.passTime n).collisions = s.collisions := rfl
@[simp] theorem State.passTime_picks (s : State) (n : Nat) : (s.passTime n).picks = s.picks := rfl
@[simp] theorem State.passTime_surface (s : State) (n : Nat) : (s.passTime n).surface = s.surface := rfl
@[simp] theorem State.passTime_arbiter (s : State) (n : Nat) : (s.passTime n).arbiter = s.arbiter := rfl
@[simp] theorem State.passTime_engine (s : State) (n : Nat) : (s.passTime n).engine = s.engine := rfl
@[simp] theorem State.passTime_pending (s : State) (n : Nat) : (s.passTime n).pending = s.pending := rfl

/-! ### State.restartClocks -/

@[simp] theorem State.restartClocks_link_lineCounter (s : State) :
    s.restartClocks.link.lineCounter = s.link.lineCounter := rfl
@[simp] theorem State.restartClocks_link_frameNumber (s : State) :
    s.restartClocks.link.frameNumber = s.link.frameNumber := rfl
@[simp] theorem State.restartClocks_link_synced (s : State) : s.restartClocks.link.synced = s.link.synced := rfl
@[simp] theorem State.restartClocks_link_edgeSeen (s : State) : s.restartClocks.link.edgeSeen = false := rfl
@[simp] theorem State.restartClocks_link_silenceCount (s : State) : s.restartClocks.link.silenceCount = 0 := rfl
@[simp] theorem State.restartClocks_link_silencePixels (s : State) :
    s.restartClocks.link.silencePixels = s.link.pixelTime := rfl
@[simp] theorem State.restartClocks_link_pixelTime (s : State) :
    s.restartClocks.link.pixelTime = s.link.pixelTime := rfl
@[simp] theorem State.restartClocks_link_frameDriven (s : State) :
    s.restartClocks.link.frameDriven = s.link.frameDriven := rfl
@[simp] theorem State.restartClocks_link_lmark (s : State) : s.restartClocks.link.lmark = s.link.lmark := rfl
@[simp] theorem State.restartClocks_link_ldata (s : State) : s.restartClocks.link.ldata = s.link.ldata := rfl
@[simp] theorem State.restartClocks_link_ldataJoin (s : State) :
    s.restartClocks.link.ldataJoin = s.link.ldataJoin := rfl
@[simp] theorem State.restartClocks_link_lineTimer (s : State) :
    s.restartClocks.link.lineTimer = if s.member.own.drives then some s.link.pixelTime else none := rfl
@[simp] theorem State.restartClocks_resetPin (s : State) : s.restartClocks.resetPin = s.resetPin := rfl
@[simp] theorem State.restartClocks_straps (s : State) : s.restartClocks.straps = s.straps := rfl
@[simp] theorem State.restartClocks_port (s : State) : s.restartClocks.port = s.port := rfl
@[simp] theorem State.restartClocks_table (s : State) : s.restartClocks.table = s.table := rfl
@[simp] theorem State.restartClocks_tints (s : State) : s.restartClocks.tints = s.tints := rfl
@[simp] theorem State.restartClocks_member (s : State) : s.restartClocks.member = s.member := rfl
@[simp] theorem State.restartClocks_claim (s : State) : s.restartClocks.claim = s.claim := rfl
@[simp] theorem State.restartClocks_lines (s : State) : s.restartClocks.lines = s.lines := rfl
@[simp] theorem State.restartClocks_output (s : State) : s.restartClocks.output = s.output := rfl
@[simp] theorem State.restartClocks_collisions (s : State) : s.restartClocks.collisions = s.collisions := rfl
@[simp] theorem State.restartClocks_picks (s : State) : s.restartClocks.picks = s.picks := rfl
@[simp] theorem State.restartClocks_surface (s : State) : s.restartClocks.surface = s.surface := rfl
@[simp] theorem State.restartClocks_arbiter (s : State) : s.restartClocks.arbiter = s.arbiter := rfl
@[simp] theorem State.restartClocks_engine (s : State) : s.restartClocks.engine = s.engine := rfl
@[simp] theorem State.restartClocks_pending (s : State) : s.restartClocks.pending = s.pending := rfl

/-! ### State.setObject -/

@[simp] theorem State.setObject_table_objects (s : State) (n : Nat) (r : ObjectRecord) :
    (s.setObject n r).table.objects = s.table.objects.set n r := rfl
@[simp] theorem State.setObject_table_updates (s : State) (n : Nat) (r : ObjectRecord) :
    (s.setObject n r).table.updates = s.table.updates := rfl
@[simp] theorem State.setObject_resetPin (s : State) (n : Nat) (r : ObjectRecord) :
    (s.setObject n r).resetPin = s.resetPin := rfl
@[simp] theorem State.setObject_straps (s : State) (n : Nat) (r : ObjectRecord) :
    (s.setObject n r).straps = s.straps := rfl
@[simp] theorem State.setObject_port (s : State) (n : Nat) (r : ObjectRecord) : (s.setObject n r).port = s.port := rfl
@[simp] theorem State.setObject_tints (s : State) (n : Nat) (r : ObjectRecord) :
    (s.setObject n r).tints = s.tints := rfl
@[simp] theorem State.setObject_link (s : State) (n : Nat) (r : ObjectRecord) : (s.setObject n r).link = s.link := rfl
@[simp] theorem State.setObject_member (s : State) (n : Nat) (r : ObjectRecord) :
    (s.setObject n r).member = s.member := rfl
@[simp] theorem State.setObject_claim (s : State) (n : Nat) (r : ObjectRecord) :
    (s.setObject n r).claim = s.claim := rfl
@[simp] theorem State.setObject_lines (s : State) (n : Nat) (r : ObjectRecord) :
    (s.setObject n r).lines = s.lines := rfl
@[simp] theorem State.setObject_output (s : State) (n : Nat) (r : ObjectRecord) :
    (s.setObject n r).output = s.output := rfl
@[simp] theorem State.setObject_collisions (s : State) (n : Nat) (r : ObjectRecord) :
    (s.setObject n r).collisions = s.collisions := rfl
@[simp] theorem State.setObject_picks (s : State) (n : Nat) (r : ObjectRecord) :
    (s.setObject n r).picks = s.picks := rfl
@[simp] theorem State.setObject_surface (s : State) (n : Nat) (r : ObjectRecord) :
    (s.setObject n r).surface = s.surface := rfl
@[simp] theorem State.setObject_arbiter (s : State) (n : Nat) (r : ObjectRecord) :
    (s.setObject n r).arbiter = s.arbiter := rfl
@[simp] theorem State.setObject_engine (s : State) (n : Nat) (r : ObjectRecord) :
    (s.setObject n r).engine = s.engine := rfl
@[simp] theorem State.setObject_pending (s : State) (n : Nat) (r : ObjectRecord) :
    (s.setObject n r).pending = s.pending := rfl

/-! ### State.drawNonce -/

@[simp] theorem State.drawNonce_member (s : State) :
    s.drawNonce.member = { s.member with nonceDraws := s.member.nonceDraws + 1 } := rfl
@[simp] theorem State.drawNonce_resetPin (s : State) : s.drawNonce.resetPin = s.resetPin := rfl
@[simp] theorem State.drawNonce_straps (s : State) : s.drawNonce.straps = s.straps := rfl
@[simp] theorem State.drawNonce_port (s : State) : s.drawNonce.port = s.port := rfl
@[simp] theorem State.drawNonce_table (s : State) : s.drawNonce.table = s.table := rfl
@[simp] theorem State.drawNonce_tints (s : State) : s.drawNonce.tints = s.tints := rfl
@[simp] theorem State.drawNonce_link (s : State) : s.drawNonce.link = s.link := rfl
@[simp] theorem State.drawNonce_claim (s : State) : s.drawNonce.claim = s.claim := rfl
@[simp] theorem State.drawNonce_lines (s : State) : s.drawNonce.lines = s.lines := rfl
@[simp] theorem State.drawNonce_output (s : State) : s.drawNonce.output = s.output := rfl
@[simp] theorem State.drawNonce_collisions (s : State) : s.drawNonce.collisions = s.collisions := rfl
@[simp] theorem State.drawNonce_picks (s : State) : s.drawNonce.picks = s.picks := rfl
@[simp] theorem State.drawNonce_surface (s : State) : s.drawNonce.surface = s.surface := rfl
@[simp] theorem State.drawNonce_arbiter (s : State) : s.drawNonce.arbiter = s.arbiter := rfl
@[simp] theorem State.drawNonce_engine (s : State) : s.drawNonce.engine = s.engine := rfl
@[simp] theorem State.drawNonce_pending (s : State) : s.drawNonce.pending = s.pending := rfl

/-! ### State.denyAll -/

@[simp] theorem State.denyAll_claim (s : State) (L : Nat) (overflow : Bool) (l : List Candidate) :
    (s.denyAll L overflow l).claim = { s.claim with current := (l.map Candidate.object).foldl (Shortfall.deny L overflow) s.claim.current } := rfl
@[simp] theorem State.denyAll_resetPin (s : State) (L : Nat) (overflow : Bool) (l : List Candidate) :
    (s.denyAll L overflow l).resetPin = s.resetPin := rfl
@[simp] theorem State.denyAll_straps (s : State) (L : Nat) (overflow : Bool) (l : List Candidate) :
    (s.denyAll L overflow l).straps = s.straps := rfl
@[simp] theorem State.denyAll_port (s : State) (L : Nat) (overflow : Bool) (l : List Candidate) :
    (s.denyAll L overflow l).port = s.port := rfl
@[simp] theorem State.denyAll_table (s : State) (L : Nat) (overflow : Bool) (l : List Candidate) :
    (s.denyAll L overflow l).table = s.table := rfl
@[simp] theorem State.denyAll_tints (s : State) (L : Nat) (overflow : Bool) (l : List Candidate) :
    (s.denyAll L overflow l).tints = s.tints := rfl
@[simp] theorem State.denyAll_link (s : State) (L : Nat) (overflow : Bool) (l : List Candidate) :
    (s.denyAll L overflow l).link = s.link := rfl
@[simp] theorem State.denyAll_member (s : State) (L : Nat) (overflow : Bool) (l : List Candidate) :
    (s.denyAll L overflow l).member = s.member := rfl
@[simp] theorem State.denyAll_lines (s : State) (L : Nat) (overflow : Bool) (l : List Candidate) :
    (s.denyAll L overflow l).lines = s.lines := rfl
@[simp] theorem State.denyAll_output (s : State) (L : Nat) (overflow : Bool) (l : List Candidate) :
    (s.denyAll L overflow l).output = s.output := rfl
@[simp] theorem State.denyAll_collisions (s : State) (L : Nat) (overflow : Bool) (l : List Candidate) :
    (s.denyAll L overflow l).collisions = s.collisions := rfl
@[simp] theorem State.denyAll_picks (s : State) (L : Nat) (overflow : Bool) (l : List Candidate) :
    (s.denyAll L overflow l).picks = s.picks := rfl
@[simp] theorem State.denyAll_surface (s : State) (L : Nat) (overflow : Bool) (l : List Candidate) :
    (s.denyAll L overflow l).surface = s.surface := rfl
@[simp] theorem State.denyAll_arbiter (s : State) (L : Nat) (overflow : Bool) (l : List Candidate) :
    (s.denyAll L overflow l).arbiter = s.arbiter := rfl
@[simp] theorem State.denyAll_engine (s : State) (L : Nat) (overflow : Bool) (l : List Candidate) :
    (s.denyAll L overflow l).engine = s.engine := rfl
@[simp] theorem State.denyAll_pending (s : State) (L : Nat) (overflow : Bool) (l : List Candidate) :
    (s.denyAll L overflow l).pending = s.pending := rfl

/-! ### State.openWindow -/

@[simp] theorem State.openWindow_claim (s : State) :
    s.openWindow.claim = { s.claim with window := some 0, grants := [], ownGrants := [] } := rfl
@[simp] theorem State.openWindow_lines (s : State) :
    s.openWindow.lines = { s.lines with buffer := [], fetching := false, column := none } := rfl
@[simp] theorem State.openWindow_resetPin (s : State) : s.openWindow.resetPin = s.resetPin := rfl
@[simp] theorem State.openWindow_straps (s : State) : s.openWindow.straps = s.straps := rfl
@[simp] theorem State.openWindow_port (s : State) : s.openWindow.port = s.port := rfl
@[simp] theorem State.openWindow_table (s : State) : s.openWindow.table = s.table := rfl
@[simp] theorem State.openWindow_tints (s : State) : s.openWindow.tints = s.tints := rfl
@[simp] theorem State.openWindow_link (s : State) : s.openWindow.link = s.link := rfl
@[simp] theorem State.openWindow_member (s : State) : s.openWindow.member = s.member := rfl
@[simp] theorem State.openWindow_output (s : State) : s.openWindow.output = s.output := rfl
@[simp] theorem State.openWindow_collisions (s : State) : s.openWindow.collisions = s.collisions := rfl
@[simp] theorem State.openWindow_picks (s : State) : s.openWindow.picks = s.picks := rfl
@[simp] theorem State.openWindow_surface (s : State) : s.openWindow.surface = s.surface := rfl
@[simp] theorem State.openWindow_arbiter (s : State) : s.openWindow.arbiter = s.arbiter := rfl
@[simp] theorem State.openWindow_engine (s : State) : s.openWindow.engine = s.engine := rfl
@[simp] theorem State.openWindow_pending (s : State) : s.openWindow.pending = s.pending := rfl

/-! ### State.emit -/

@[simp] theorem State.emit_output (s : State) (colour : Byte) :
    (s.emit colour).output = { s.output with rgb := s.output.palette.getD colour.toNat .black } := rfl
@[simp] theorem State.emit_resetPin (s : State) (colour : Byte) : (s.emit colour).resetPin = s.resetPin := rfl
@[simp] theorem State.emit_straps (s : State) (colour : Byte) : (s.emit colour).straps = s.straps := rfl
@[simp] theorem State.emit_port (s : State) (colour : Byte) : (s.emit colour).port = s.port := rfl
@[simp] theorem State.emit_table (s : State) (colour : Byte) : (s.emit colour).table = s.table := rfl
@[simp] theorem State.emit_tints (s : State) (colour : Byte) : (s.emit colour).tints = s.tints := rfl
@[simp] theorem State.emit_link (s : State) (colour : Byte) : (s.emit colour).link = s.link := rfl
@[simp] theorem State.emit_member (s : State) (colour : Byte) : (s.emit colour).member = s.member := rfl
@[simp] theorem State.emit_claim (s : State) (colour : Byte) : (s.emit colour).claim = s.claim := rfl
@[simp] theorem State.emit_lines (s : State) (colour : Byte) : (s.emit colour).lines = s.lines := rfl
@[simp] theorem State.emit_collisions (s : State) (colour : Byte) : (s.emit colour).collisions = s.collisions := rfl
@[simp] theorem State.emit_picks (s : State) (colour : Byte) : (s.emit colour).picks = s.picks := rfl
@[simp] theorem State.emit_surface (s : State) (colour : Byte) : (s.emit colour).surface = s.surface := rfl
@[simp] theorem State.emit_arbiter (s : State) (colour : Byte) : (s.emit colour).arbiter = s.arbiter := rfl
@[simp] theorem State.emit_engine (s : State) (colour : Byte) : (s.emit colour).engine = s.engine := rfl
@[simp] theorem State.emit_pending (s : State) (colour : Byte) : (s.emit colour).pending = s.pending := rfl

/-! ### State.withPending -/

@[simp] theorem State.withPending_pending (s : State) (q : List Instr) : (s.withPending q).pending = q := rfl
@[simp] theorem State.withPending_resetPin (s : State) (q : List Instr) : (s.withPending q).resetPin = s.resetPin := rfl
@[simp] theorem State.withPending_straps (s : State) (q : List Instr) : (s.withPending q).straps = s.straps := rfl
@[simp] theorem State.withPending_port (s : State) (q : List Instr) : (s.withPending q).port = s.port := rfl
@[simp] theorem State.withPending_table (s : State) (q : List Instr) : (s.withPending q).table = s.table := rfl
@[simp] theorem State.withPending_tints (s : State) (q : List Instr) : (s.withPending q).tints = s.tints := rfl
@[simp] theorem State.withPending_link (s : State) (q : List Instr) : (s.withPending q).link = s.link := rfl
@[simp] theorem State.withPending_member (s : State) (q : List Instr) : (s.withPending q).member = s.member := rfl
@[simp] theorem State.withPending_claim (s : State) (q : List Instr) : (s.withPending q).claim = s.claim := rfl
@[simp] theorem State.withPending_lines (s : State) (q : List Instr) : (s.withPending q).lines = s.lines := rfl
@[simp] theorem State.withPending_output (s : State) (q : List Instr) : (s.withPending q).output = s.output := rfl
@[simp] theorem State.withPending_collisions (s : State) (q : List Instr) :
    (s.withPending q).collisions = s.collisions := rfl
@[simp] theorem State.withPending_picks (s : State) (q : List Instr) : (s.withPending q).picks = s.picks := rfl
@[simp] theorem State.withPending_surface (s : State) (q : List Instr) : (s.withPending q).surface = s.surface := rfl
@[simp] theorem State.withPending_arbiter (s : State) (q : List Instr) : (s.withPending q).arbiter = s.arbiter := rfl
@[simp] theorem State.withPending_engine (s : State) (q : List Instr) : (s.withPending q).engine = s.engine := rfl

end Sys2Proof.Machine
end

