-- ==== Sys2Proof/Laws/Memory.lean ====
section
/-! SUPPORT. The surface memory: a read after a write, the canonical form kept by every write, and memories in that form
equal where every address reads the same. -/

namespace Sys2Proof.Machine

/-- The canonical form as a proposition. -/
theorem Memory.wf_iff (m : Memory) :
    m.wf = true ↔ m.Pairwise (fun p q => p.1 < q.1) ∧ ∀ c ∈ m, c.2 ≠ unlistedByte := by
  simp [Memory.wf]

/-- The head of a canonical memory lies below every other cell, and the rest is canonical. -/
theorem Memory.wf_cons (b : Nat) (w : Byte) (m : Memory) :
    Memory.wf ((b, w) :: m) = true ↔ (∀ c ∈ m, b < c.1) ∧ w ≠ unlistedByte ∧ Memory.wf m = true := by
  simp only [Memory.wf_iff, List.pairwise_cons, List.mem_cons, forall_eq_or_imp]
  tauto

/-- An address below every cell reads as unlisted. -/
theorem Memory.read_below (m : Memory) (a : Nat) (h : ∀ c ∈ m, a < c.1) : m.read a = unlistedByte := by
  induction m with
  | nil => rfl
  | cons c m ih =>
    obtain ⟨b, w⟩ := c
    have hb := h (b, w) (by simp)
    simp only at hb
    rw [Memory.read, if_neg (by omega)]
    exact ih fun c hc => h c (by simp [hc])

/-- A write leaves every other address as it was. -/
theorem Memory.read_write_other (m : Memory) (a c : Nat) (v : Byte) (h : c ≠ a) : (m.write a v).read c = m.read c := by
  induction m with
  | nil => simp only [Memory.write]; split <;> simp [Memory.read, h]
  | cons p m ih =>
    obtain ⟨b, w⟩ := p
    simp only [Memory.write]
    split
    · split <;> simp [Memory.read, h]
    · split
      · subst b
        split <;> simp [Memory.read, h]
      · simp only [Memory.read, ih]

/-- A read after a write to the same address gives the value written. -/
theorem Memory.read_write_same (m : Memory) (a : Nat) (v : Byte) (h : m.wf = true) : (m.write a v).read a = v := by
  induction m with
  | nil => simp only [Memory.write]; split <;> simp_all [Memory.read]
  | cons p m ih =>
    obtain ⟨b, w⟩ := p
    obtain ⟨hlt, -, hm⟩ := (Memory.wf_cons b w m).1 h
    simp only [Memory.write]
    split
    · rename_i hab
      split
      · rename_i hv
        rw [hv]
        exact Memory.read_below _ _ (by
          intro c hc
          rcases List.mem_cons.1 hc with rfl | hc
          · exact hab
          · exact hab.trans (hlt c hc))
      · simp [Memory.read]
    · split
      · subst b
        split
        · rename_i hv
          rw [hv]
          exact Memory.read_below _ _ hlt
        · simp [Memory.read]
      · rename_i hne
        simp only [Memory.read, if_neg hne]
        exact ih hm

/-- Every cell of a memory after a write is the one written or stood there before. -/
theorem Memory.mem_write (m : Memory) (a : Nat) (v : Byte) (c : Host.Cell) (h : c ∈ m.write a v) :
    c = (a, v) ∧ v ≠ unlistedByte ∨ c ∈ m := by
  induction m with
  | nil => simp only [Memory.write] at h; split at h <;> simp_all
  | cons p m ih =>
    obtain ⟨b, w⟩ := p
    simp only [Memory.write] at h
    split at h
    · split at h
      · exact .inr h
      · rename_i hv
        rcases List.mem_cons.1 h with rfl | h
        · exact .inl ⟨rfl, hv⟩
        · exact .inr h
    · split at h
      · split at h
        · exact .inr (by simp [h])
        · rename_i hab hv
          rcases List.mem_cons.1 h with rfl | h
          · exact .inl ⟨by rw [hab], hv⟩
          · exact .inr (by simp [h])
      · rcases List.mem_cons.1 h with rfl | h
        · exact .inr (by simp)
        · rcases ih h with h | h
          · exact .inl h
          · exact .inr (by simp [h])

/-- A write keeps the canonical form. -/
theorem Memory.wf_write (m : Memory) (a : Nat) (v : Byte) (h : m.wf = true) : (m.write a v).wf = true := by
  induction m with
  | nil => simp only [Memory.write]; split <;> simp_all [Memory.wf]
  | cons p m ih =>
    obtain ⟨b, w⟩ := p
    obtain ⟨hlt, hw, hm⟩ := (Memory.wf_cons b w m).1 h
    simp only [Memory.write]
    split
    · rename_i hab
      split
      · exact h
      · rename_i hv
        refine (Memory.wf_cons _ _ _).2 ⟨?_, hv, h⟩
        intro c hc
        rcases List.mem_cons.1 hc with rfl | hc
        · exact hab
        · exact hab.trans (hlt c hc)
    · split
      · split
        · exact hm
        · rename_i hv
          exact (Memory.wf_cons _ _ _).2 ⟨hlt, hv, hm⟩
      · rename_i h1 h2
        refine (Memory.wf_cons _ _ _).2 ⟨?_, hw, ih hm⟩
        intro c hc
        rcases Memory.mem_write m a v c hc with ⟨rfl, -⟩ | hc
        · simp only; omega
        · exact hlt c hc

/-- The memory after the reset pin has the canonical form. -/
theorem Memory.wf_reset : Memory.wf State.reset.surface = true := rfl

/-- Memories in the canonical form that read the same everywhere are the same data. -/
theorem Memory.ext_read (m n : Memory) (hm : m.wf = true) (hn : n.wf = true) (h : ∀ a, m.read a = n.read a) : m = n := by
  induction m generalizing n with
  | nil =>
    cases n with
    | nil => rfl
    | cons p n =>
      obtain ⟨b, w⟩ := p
      obtain ⟨-, hw, -⟩ := (Memory.wf_cons b w n).1 hn
      exact absurd (by simpa [Memory.read] using (h b).symm) hw
  | cons p m ih =>
    obtain ⟨b, w⟩ := p
    obtain ⟨hlt, hw, hm'⟩ := (Memory.wf_cons b w m).1 hm
    cases n with
    | nil => exact absurd (by simpa [Memory.read] using h b) hw
    | cons q n =>
      obtain ⟨b', w'⟩ := q
      obtain ⟨hlt', hw', hn'⟩ := (Memory.wf_cons b' w' n).1 hn
      have hb : b = b' := by
        rcases Nat.lt_trichotomy b b' with hb | hb | hb
        · have h1 := h b
          rw [Memory.read, if_pos rfl, Memory.read_below ((b', w') :: n) b (by
            intro c hc
            rcases List.mem_cons.1 hc with rfl | hc
            · exact hb
            · exact hb.trans (hlt' c hc))] at h1
          exact absurd h1 hw
        · exact hb
        · have h1 := h b'
          rw [Memory.read_below ((b, w) :: m) b' (by
            intro c hc
            rcases List.mem_cons.1 hc with rfl | hc
            · exact hb
            · exact hb.trans (hlt c hc)), Memory.read, if_pos rfl] at h1
          exact absurd h1.symm hw'
      subst b'
      have hv : w = w' := by simpa [Memory.read] using h b
      subst w'
      rw [ih n hm' hn' fun a => ?_]
      by_cases ha : a = b
      · subst a
        rw [Memory.read_below m b hlt, Memory.read_below n b hlt']
      · simpa [Memory.read, ha] using h a

/-- Positions on the surface have addresses of their own. -/
theorem pixelAddress_inj (x y x' y' : Nat) (hx : x ≤ 511) (hx' : x' ≤ 511)
    (h : pixelAddress x y = pixelAddress x' y') : x = x' ∧ y = y' := by
  simp only [pixelAddress, surfaceSize] at h
  omega

/-- The pixel that a write access has set. -/
theorem State.pixel_setPixel_same (s : State) (x y : Nat) (v : Byte) (h : Memory.wf s.surface = true) :
    (s.setPixel x y v).pixel x y = v := Memory.read_write_same _ _ _ h

/-- Every pixel but the one that a write access sets. -/
theorem State.pixel_setPixel_other (s : State) (x y x' y' : Nat) (v : Byte) (hx : x ≤ 511) (hx' : x' ≤ 511)
    (h : ¬(x' = x ∧ y' = y)) : (s.setPixel x y v).pixel x' y' = s.pixel x' y' :=
  Memory.read_write_other _ _ _ _ fun ha => h (pixelAddress_inj x' y' x y hx' hx ha)

end Sys2Proof.Machine
end

