-- ==== Sys2Proof/Laws/Ops.lean ====
section
/-! SUPPORT. What each shared operation can do, said once: taking a command, a happening and its condition, the arbiter's
choice, the passing of time to a position, a change of the own state, and the operations of the blocks. -/

namespace Sys2Proof.Machine

/-! ### When a happening takes place -/

/-- A happening whose condition holds. -/
theorem happening_of {s : State} {enabled : Bool} {f : State → State} (h : s.resetPin = false) (he : enabled = true) :
    s.happening enabled f = .next (f s) := by
  simp [State.happening, h, he]

/-- A happening whose condition fails. -/
theorem happening_off {s : State} {enabled : Bool} {f : State → State} (h : enabled = false) :
    s.happening enabled f = .next s := by
  simp [State.happening, h]

/-- A happening answers the state it found, or the state its effect gives. -/
theorem happening_cases {s t : State} {enabled : Bool} {f : State → State} (h : s.happening enabled f = .next t) :
    t = s ∨ (s.resetPin = false ∧ enabled = true ∧ t = f s) := by
  simp only [State.happening, Host.Outcome.next.injEq] at h
  split at h
  · rename_i hc
    simp only [Bool.and_eq_true, Bool.not_eq_true'] at hc
    exact .inr ⟨hc.1, hc.2, h.symm⟩
  · exact .inl h.symm

/-- An access whose condition holds and whose place exists. -/
theorem accessing_of {s : State} {enabled : Bool} {fault : Option Fault} {f : State → State} (h : s.resetPin = false)
    (he : enabled = true) (hf : fault = none) : s.accessing enabled fault f = .next (f s) := by
  simp [State.accessing, h, he, hf]

/-- An access whose condition fails. -/
theorem accessing_off {s : State} {enabled : Bool} {fault : Option Fault} {f : State → State} (h : enabled = false) :
    s.accessing enabled fault f = .next s := by
  simp [State.accessing, h]

/-- An access that answers a next state left the state as it found it, or its place exists and it had its effect. -/
theorem accessing_cases {s t : State} {enabled : Bool} {fault : Option Fault} {f : State → State}
    (h : s.accessing enabled fault f = .next t) :
    t = s ∨ (s.resetPin = false ∧ enabled = true ∧ fault = none ∧ t = f s) := by
  unfold State.accessing at h
  split at h
  · rename_i hc
    simp only [Bool.and_eq_true, Bool.not_eq_true'] at hc
    split at h
    · cases h
    · exact .inr ⟨hc.1, hc.2, rfl, (Host.Outcome.next.inj h).symm⟩
  · exact .inl (Host.Outcome.next.inj h).symm

/-! ### Taking a command -/

/-- The head that a row may take stands first in the queue, is one of the row's, and meets the three conditions of R161. -/
theorem takeable_eq_some {s : State} {row : Entry → Bool} {e : Entry} :
    s.takeable row = some e ↔ (∃ rest, s.port.commands = e :: rest) ∧ row e = true ∧ s.mayTake e = true := by
  unfold State.takeable
  cases hq : s.port.commands with
  | nil => simp
  | cons e' rest =>
    simp only [Option.ite_none_right_eq_some, Bool.and_eq_true, Option.some.injEq, List.cons.injEq]
    constructor
    · rintro ⟨h, rfl⟩; exact ⟨⟨rest, rfl, rfl⟩, h⟩
    · rintro ⟨⟨rest', rfl, rfl⟩, h⟩; exact ⟨h, rfl⟩

/-- The three conditions of R161, as `State.Takes` states them. -/
theorem mayTake_iff (s : State) (e : Entry) :
    s.mayTake e = true ↔ s.port.transfer = none ∧ s.port.responses.length + s.unanswered < 8 ∧
      (e.isDraw = true → s.engine.queue.length < 4) := by
  simp only [State.mayTake, Bool.and_eq_true, Option.isNone_iff_eq_none, decide_eq_true_eq, Bool.or_eq_true,
    Bool.not_eq_true', and_assoc]
  cases e.isDraw <;> simp [responseBudget, drawCapacity]

/-- A row that takes the head carries it out on the state with the head out of the queue. -/
theorem taking_of {s : State} {e : Entry} {rest : List Entry} {row : Entry → Bool} {act : Entry → State → State}
    (h : s.Takes e rest) (hr : row e = true) : s.taking row act = .next (act e (s.without rest)) := by
  have ht : s.takeable row = some e :=
    takeable_eq_some.2 ⟨⟨rest, h.head⟩, hr, (mayTake_iff s e).2 ⟨h.free, h.budget, h.room⟩⟩
  unfold State.taking
  rw [ht]
  simp [State.happening, h.live, State.dropHead, h.head, State.without]

/-- A row that answers leaves the state as it found it, or has taken the head. -/
theorem taking_cases {s t : State} {row : Entry → Bool} {act : Entry → State → State} (h : s.taking row act = .next t) :
    t = s ∨ ∃ e rest, s.Takes e rest ∧ row e = true ∧ t = act e (s.without rest) := by
  unfold State.taking at h
  split at h
  · exact .inl (Host.Outcome.next.inj h).symm
  · rename_i e he
    rcases happening_cases h with h | ⟨hp, -, h⟩
    · exact .inl h
    · obtain ⟨⟨rest, hq⟩, hr, hm⟩ := takeable_eq_some.1 he
      obtain ⟨hf, hb, hd⟩ := (mayTake_iff s e).1 hm
      refine .inr ⟨e, rest, ⟨hp, hq, hf, hb, hd⟩, hr, h.trans ?_⟩
      simp [State.dropHead, hq, State.without]

/-- A row never answers with a fault or a refusal. -/
theorem taking_next (s : State) (row : Entry → Bool) (act : Entry → State → State) : ∃ t, s.taking row act = .next t := by
  unfold State.taking
  split
  · exact ⟨s, rfl⟩
  · exact ⟨_, rfl⟩

/-- An ordinary entry of a command's code and one of its lengths is the command's row's. -/
theorem runs_ordinary {c : Command} {code tag : Byte} {payload : List Byte} (hc : commandOf code = some c)
    (hl : commandAllows c payload.length = true) : (Entry.ordinary code tag payload).runs c = true := by
  simp [Entry.runs, Entry.ordinary, hc, hl]

/-! ### The Store Arbiter -/

/-- While no access is known to be under service, the arbiter's order decides. -/
theorem mayServe_free {s : State} (h : s.heldClient = none) (c : Client) :
    s.mayServe c = (s.presents c && s.inOrder c) := by
  simp [State.mayServe, h]

/-- While an access is known to be under service, it alone is served. -/
theorem mayServe_held {s : State} {c : Client} (h : s.heldClient = some c) (d : Client) :
    s.mayServe d = true ↔ d = c := by
  have hp : s.presents c = true := (Option.filter_eq_some_iff.1 h).2
  simp only [State.mayServe, h, Bool.and_eq_true, beq_iff_eq]
  exact ⟨fun hd => hd.2.symm, fun hd => ⟨hd ▸ hp, hd.symm⟩⟩

/-- Only a client that has an access at the arbiter is served. -/
theorem presents_of_mayServe {s : State} {c : Client} (h : s.mayServe c = true) : s.presents c = true :=
  (Bool.and_eq_true_iff.1 h).1

/-- An engine access that stands alone at the arbiter may be served, whatever was held before. -/
theorem mayServe_engine_alone {s : State} (hp : s.engine.mode.presents = true) (hf : s.lines.fetching = false)
    (ht : s.port.transfer = none) : s.mayServe .engine = true := by
  unfold State.mayServe State.heldClient
  rcases s.arbiter.held with _ | c
  · simp [State.presents, State.inOrder, hp, hf, ht]
  · cases c <;> simp [State.presents, State.inOrder, Option.filter, hp, hf, ht]

/-- An access found to be under service as a frame arrives may be served, and is the one held from then on. -/
theorem serving_hold {s : State} {named : Option Client} {c : Client} (h : s.serving named = some c) :
    s.mayServe c = true ∧ (s.hold named).heldClient = some c ∧ ∀ d, (s.hold named).mayServe d = true ↔ d = c := by
  have hm : s.mayServe c = true := by
    unfold State.serving at h
    rcases hh : s.heldClient with _ | b
    · rw [hh, Option.none_or] at h; exact (Option.filter_eq_some_iff.1 h).2
    · rw [hh, Option.some_or] at h; cases h; exact (mayServe_held hh _).2 rfl
  have hp : s.presents c = true := presents_of_mayServe hm
  have hk : (s.hold named).heldClient = some c := Option.filter_eq_some_iff.2 ⟨h, hp⟩
  exact ⟨hm, hk, mayServe_held hk⟩

/-- Where no access is found to be under service as a frame arrives, the arbiter's order alone decides from then on. -/
theorem mayServe_hold_none {s : State} {named : Option Client} (h : s.serving named = none) (c : Client) :
    (s.hold named).mayServe c = true ↔ s.presents c = true ∧ match c with
      | .fetch => True
      | .port => s.presents .fetch = false
      | .engine => s.presents .fetch = false ∧ s.presents .port = false := by
  have hk : (s.hold named).heldClient = none := by simp [State.heldClient, State.hold, h]
  have hp : ∀ d, (s.hold named).presents d = s.presents d := fun d => by cases d <;> rfl
  rw [mayServe_free hk]
  cases c <;> simp [State.inOrder, hp]

/-- A place that exists is no fault. -/
theorem surfaceFault_none {x y : Nat} (hx : x ≤ 511) (hy : y ≤ 511) : surfaceFault x y = none := by
  have h1 : x < 512 := by omega
  have h2 : y < 512 := by omega
  simp [surfaceFault, inSurface, inAxis, surfaceSize, h1, h2]

/-- Only a place on the surface is no fault. -/
theorem surfaceFault_eq_none {x y : Nat} : surfaceFault x y = none ↔ x ≤ 511 ∧ y ≤ 511 := by
  constructor
  · intro h
    unfold surfaceFault at h
    split at h
    · rename_i hs
      simp only [inSurface, inAxis, Bool.and_eq_true, decide_eq_true_eq] at hs
      have h512 : surfaceSize = 512 := rfl
      omega
    · cases h
  · exact fun h => surfaceFault_none h.1 h.2

/-! ### Events -/

/-- One more of a count, up to 255. -/
theorem saturate_oneMore (n : Nat) : saturate (n + 1) = oneMore n := by
  unfold saturate oneMore; split <;> omega

/-- A count raised stays at 255 or less, and the others are as they were. -/
theorem Events.raise_le (k : EventKind) (e : Events) (h : ∀ n ∈ e.counts, n ≤ 255) : ∀ n ∈ (e.raise k).counts, n ≤ 255 := by
  cases k <;> simp_all [Events.raise, Events.counts, saturate]

/-! ### Positions of the line -/

/-- Time passes to a position not yet reached; a position passed is kept. -/
theorem reach_pixelTime (s : State) (p : Nat) : (s.reach p).link.pixelTime = max p s.link.pixelTime := by
  unfold State.reach
  split
  · simp only [State.passTime_link_pixelTime]; omega
  · omega

/-- What the passing of time to a position leaves as it was. -/
theorem reach_frame (s : State) (p : Nat) :
    let t := s.reach p
    t.resetPin = s.resetPin ∧ t.straps = s.straps ∧ t.port = s.port ∧ t.table = s.table ∧ t.tints = s.tints ∧
      t.member = s.member ∧ t.claim = s.claim ∧ t.lines = s.lines ∧ t.collisions = s.collisions ∧ t.picks = s.picks ∧
      t.surface = s.surface ∧ t.arbiter = s.arbiter ∧ t.engine = s.engine ∧ t.pending = s.pending ∧
      t.output.palette = s.output.palette ∧ t.link.lineCounter = s.link.lineCounter ∧
      t.link.frameNumber = s.link.frameNumber ∧ t.link.synced = s.link.synced ∧ t.link.edgeSeen = s.link.edgeSeen ∧
      t.link.lineTimer.isSome = s.link.lineTimer.isSome := by
  unfold State.reach
  split <;> simp

/-! ### The own state -/

/-- What a change of the own state does to the Membership Unit. -/
theorem changeState_member (s : State) (new : OwnState) :
    (s.changeState new).member = { s.member with
      own := new, listenCount := 0, windowWait := 0, admitted := false, detachPending := false,
      announce := s.member.announce.map (.entering new s.link.pixelTime) } := by
  unfold State.changeState; split <;> rfl

/-- A window still to begin counts where the state entered is LISTEN, and one that has begun does not (R52, R65). -/
theorem entering_listening (new : OwnState) (time : Nat) (w : AnnounceWindow) :
    (w.entering new time).listening = true ↔ new = .listen ∧ w.wordRead = false ∧ time < 8 := by
  have ht : decide (frameWordStart ≤ time) = false ↔ time < 8 :=
    decide_eq_false_iff_not.trans Nat.not_le
  simp [AnnounceWindow.entering, AnnounceWindow.begun, ht]

/-- What entering a state leaves of a window as it was. -/
theorem entering_frame (new : OwnState) (time : Nat) (w : AnnounceWindow) :
    (w.entering new time).wordRead = w.wordRead ∧ (w.entering new time).place = w.place ∧
      (w.entering new time).heard = w.heard := ⟨rfl, rfl, rfl⟩

/-- What a change of the own state does to the port: STATE is raised. -/
theorem changeState_port (s : State) (new : OwnState) :
    (s.changeState new).port = { s.port with events := s.port.events.raise .state } := by
  unfold State.changeState; split <;> rfl

/-- What a change to a driving state does to the link: the line timer runs. -/
theorem changeState_link_drives (s : State) (new : OwnState) (h : new.drives = true) :
    (s.changeState new).link = { s.link with lineTimer := some (s.link.lineTimer.getD s.link.pixelTime) } := by
  simp [State.changeState, h, timerIn, State.raise]

/-- What a change to a state that does not drive does to the link: the timer stops and the lines are released. -/
theorem changeState_link_silent (s : State) (new : OwnState) (h : new.drives = false) :
    (s.changeState new).link =
      { s.link with
        lineTimer := none, lmark := none, frameDriven := s.link.frameStood, ldata := released, ldataJoin := released } := by
  simp [State.changeState, h, timerIn, State.raise, State.releaseLines]

/-- What a change of the own state leaves as it was. -/
theorem changeState_frame (s : State) (new : OwnState) :
    let t := s.changeState new
    t.resetPin = s.resetPin ∧ t.straps = s.straps ∧ t.table = s.table ∧ t.tints = s.tints ∧ t.claim = s.claim ∧
      t.lines = s.lines ∧ t.output = s.output ∧ t.collisions = s.collisions ∧ t.picks = s.picks ∧
      t.surface = s.surface ∧ t.arbiter = s.arbiter ∧ t.engine = s.engine ∧ t.pending = s.pending := by
  unfold State.changeState; split <;> simp

/-! ### The claim window and the line -/

/-- What opening an active line does: only the Claim Unit and the line buffer change. -/
theorem openActiveLine_eq (s : State) (L : Nat) :
    s.openActiveLine L = { s with
      claim := { s.claim with
        candidates := (s.selected L).take candidateCapacity, window := some 0, grants := [], ownGrants := []
        current := (((s.selected L).drop candidateCapacity).map Candidate.object).foldl (Shortfall.deny L true)
          s.claim.current }
      lines := { s.lines with buffer := [], fetching := false, column := none } } := rfl

/-- What the start of the fetch does: the first row of the line buffer, in MEMBER with own grants, and nothing else. -/
theorem startFetch_cases (s : State) :
    (s.isMember = true ∧ ∃ g rest, s.claim.ownGrants = g :: rest ∧
      s.startFetch = { s with
        arbiter := { portMayHold := s.mayServe .port, engineMayHold := s.mayServe .engine, held := s.heldClient }
        lines := { s.lines with buffer := [startRow g], fetching := true } }) ∨
    ((s.isMember = false ∨ s.claim.ownGrants = []) ∧ s.startFetch = s) := by
  unfold State.startFetch
  cases hg : s.claim.ownGrants with
  | nil => exact .inr ⟨.inr rfl, rfl⟩
  | cons g rest =>
    cases hm : s.isMember with
    | false => exact .inr ⟨.inl rfl, by simp⟩
    | true => exact .inl ⟨rfl, g, rest, rfl, by simp [State.fetchPresents]⟩

/-- The station that stands before the fetch begins at the close of a window. -/
def State.windowClosed (s : State) : State :=
  { s with
    claim := { s.claim with
      window := none
      current := (s.claim.candidates.map Candidate.object).foldl (Shortfall.deny s.link.lineCounter false)
        s.claim.current }
    lines := { s.lines with column := some 0 } }

/-- The close of a window is the denial of the candidates left, and then the start of the fetch. -/
theorem closeWindow_eq (s : State) : s.closeWindow = s.windowClosed.startFetch := rfl

/-- What cutting an open window does: only the Claim Unit changes. -/
theorem cutWindow_eq (s : State) :
    s.cutWindow = { s with claim := match s.claim.window with
      | none => s.claim
      | some _ => { s.claim with
          window := none
          current := (s.claim.candidates.map Candidate.object).foldl (Shortfall.deny s.link.lineCounter false)
            s.claim.current } } := by
  unfold State.cutWindow; split <;> simp [State.denyAll, *]

/-- No window is open after a cut. -/
theorem cutWindow_window (s : State) : s.cutWindow.claim.window = none := by
  unfold State.cutWindow; split
  · assumption
  · rfl

/-- What the end of the line in hand does: only the Claim Unit, the fetch, the active part, the announce window and a waiting
edge change. -/
theorem endLine_eq (s : State) :
    s.endLine = { s with
      claim := s.cutWindow.claim
      lines := { s.lines with fetching := false, column := none }
      member := { s.member with announce := none }
      picks := { s.picks with
        trigger := s.picks.trigger || s.picks.edgeWaiting, edgeWaiting := false, edgeTaken := false } } := by
  unfold State.endLine State.cutWindow; split <;> rfl

/-- A leading edge before the decision point of the one before is part of the same assertion. -/
theorem leadingEdge_seen (s : State) (h : s.link.edgeSeen = true) : s.leadingEdge = s := by
  simp [State.leadingEdge, h]

/-- A leading edge always waits for its decision point. -/
theorem leadingEdge_edgeSeen (s : State) : s.leadingEdge.link.edgeSeen = true := by
  unfold State.leadingEdge; split
  · assumption
  · rfl

/-! ### The clocks of the link -/

/-- When a running line timer may run out. -/
theorem timerDue_iff (s : State) :
    s.timerDue = true ↔ ∃ time, s.link.lineTimer = some time ∧
      (s.link.edgeSeen = false ∨ (s.link.pixelTime = 0 ∧ time = s.geometry.linePixels)) := by
  unfold State.timerDue
  cases s.link.lineTimer <;> simp

/-- A mark driven into an assertion that stands, with no new leading edge. -/
theorem driveMark_seen (s : State) (kind : MarkKind) (h : s.link.edgeSeen = true) :
    s.driveMark kind = { s with link := { s.link with lmark := some kind, frameDriven := kind == .frame } } := by
  simp [State.driveMark, leadingEdge_seen s h]

/-- A station whose silence has cost it its sync, or that had none, is unsynced. -/
theorem loseSync_synced (s : State) : s.loseSync.link.synced = false := by
  unfold State.loseSync; split
  · rfl
  · rename_i h; exact Bool.eq_false_iff.2 h

/-- An unsynced station has no sync to lose. -/
theorem loseSync_unsynced (s : State) (h : s.link.synced = false) : s.loseSync = s := by
  simp [State.loseSync, h]

/-- A silence count below its limit brings nothing. -/
theorem atSilenceLimit_below (s : State) (h : s.link.silenceCount < 2 * s.geometry.totalLines) :
    s.atSilenceLimit = s := by
  simp [State.atSilenceLimit, Nat.not_le.2 h]

/-! ### The Drawing Engine -/

/-- What the engine's choice of its next command leaves as it was: it answers commands that present no access, and sets the
mode and the queue. -/
theorem engineLoad_frame (q : List DrawEntry) (s : State) :
    let t := engineLoad q s
    t.resetPin = s.resetPin ∧ t.straps = s.straps ∧ t.table = s.table ∧ t.tints = s.tints ∧ t.link = s.link ∧
      t.member = s.member ∧ t.claim = s.claim ∧ t.lines = s.lines ∧ t.output = s.output ∧
      t.collisions = s.collisions ∧ t.picks = s.picks ∧ t.surface = s.surface ∧ t.arbiter = s.arbiter ∧
      t.pending = s.pending ∧ t.port.commands = s.port.commands ∧ t.port.events = s.port.events ∧
      t.port.transfer = s.port.transfer ∧ t.port.pdo = s.port.pdo := by
  induction q generalizing s with
  | nil => simp [engineLoad]
  | cons e rest ih =>
    simp only [engineLoad]
    split
    · simp
    · split
      · simpa [State.answerDraw] using ih (s.answerDraw e .ok (endState e.cmd (allProcessed e.cmd)))
      · simp

/-- The engine's choice keeps the number of draw commands and responses together: each command either stays unanswered or
is answered once. -/
theorem engineLoad_count (q : List DrawEntry) (s : State) :
    (engineLoad q s).unanswered + (engineLoad q s).port.responses.length = q.length + s.port.responses.length := by
  induction q generalizing s with
  | nil => simp [engineLoad, State.unanswered, engineHeld]
  | cons e rest ih =>
    simp only [engineLoad]
    split
    · simp only [State.unanswered, engineHeld, List.length_cons]; omega
    · split
      · rw [ih]; simp only [State.answerDraw, State.respond_port_responses, List.length_append, List.length_cons, List.length_nil]; omega
      · simp only [State.unanswered, engineHeld, List.length_cons]; omega

/-- The engine's choice from a queue: the commands that end as they are taken are answered, and the next one waits or runs. -/
theorem engineLoad_skips {skipped tail : List DrawEntry} (h : SkipsTo skipped tail) (s : State) :
    engineLoad (skipped ++ tail) s = s.takesNext skipped tail := by
  obtain ⟨h1, h2⟩ := h
  induction skipped generalizing s with
  | nil =>
    cases tail with
    | nil => simp [engineLoad, State.takesNext]
    | cons e rest =>
      have := h2 e (by simp)
      simp only [List.nil_append, engineLoad, State.takesNext, List.map_nil, List.append_nil]
      by_cases hs : drawSync e.cmd
      · simp [hs]
      · simp [hs] at this; simp [hs, this]
  | cons e rest ih =>
    have he := h1 e (by simp)
    simp only [List.cons_append, engineLoad, he.1, he.2, if_true, if_false, Bool.false_eq_true]
    rw [ih _ (fun e he => h1 e (List.mem_cons_of_mem _ he))]
    simp [State.takesNext, State.answerDraw, State.respond, DrawEntry.endedResponse, allProcessed, Progress.none]

/-- Aborted commands are answered in their order, with nothing else changed. -/
theorem abortAll_eq (entries : List DrawEntry) (s : State) :
    s.abortAll entries = { s with port := { s.port with
      responses := s.port.responses ++ entries.map fun e => ⟨e.tag, drawCode e.cmd, .aborted, zeroState e.cmd⟩ } } := by
  induction entries generalizing s with
  | nil => simp [State.abortAll]
  | cons e rest ih =>
    have h : s.abortAll (e :: rest) = (s.answerDraw e .aborted (zeroState e.cmd)).abortAll rest := rfl
    rw [h, ih]
    simp [State.answerDraw, State.respond]

/-- An access of the engine changes at most the pixel it names. -/
theorem engineWrites_cases (s : State) :
    s.engineWrites = s ∨ ∃ e p v, engineCurrent s.engine.mode = some (e, p) ∧
      accessWrite e.cmd p (s.pixel (accessPosition e.cmd p).1 (accessPosition e.cmd p).2) = some v ∧
      s.engineWrites = s.setPixel (accessPosition e.cmd p).1 (accessPosition e.cmd p).2 v := by
  unfold State.engineWrites
  split
  · exact .inl rfl
  · rename_i e p hc
    dsimp only
    split
    · exact .inl rfl
    · rename_i v hv
      exact .inr ⟨e, p, v, hc, hv, rfl⟩

/-- An access of the port changes at most the pixel it names. -/
theorem portWrites_cases (s : State) :
    s.portWrites = s ∨ ∃ tag x y pixels next, s.port.transfer = some (.write tag x y pixels next) ∧
      s.portWrites = s.setPixel (x + next) y (pixels.getD next 0#8) := by
  unfold State.portWrites
  split
  · rename_i h; exact .inr ⟨_, _, _, _, _, h, rfl⟩
  · exact .inl rfl
  · exact .inl rfl

/-! ### Runs, and the contested fields -/

/-- A run that fits keeps the length of the list. -/
theorem setRun_length {α : Type} (l values : List α) (start : Nat) (h : start + values.length ≤ l.length) :
    (setRun l start values).length = l.length := by
  simp only [setRun, List.length_append, List.length_take, List.length_drop]; omega

/-- A value within a run that fits is the value set. -/
theorem setRun_inside {α : Type} (l values : List α) (start i : Nat) (d : α) (h : start + values.length ≤ l.length)
    (hi : i < values.length) : (setRun l start values).getD (start + i) d = values.getD i d := by
  have hl : (l.take start).length = start := by simp; omega
  simp only [setRun, List.append_assoc, List.getD_eq_getElem?_getD]
  rw [List.getElem?_append_right (by omega), hl, Nat.add_sub_cancel_left, List.getElem?_append_left hi]

/-- A value outside a run that fits is as it was. -/
theorem setRun_outside {α : Type} (l values : List α) (start i : Nat) (d : α) (h : start + values.length ≤ l.length)
    (hi : i < start ∨ start + values.length ≤ i) : (setRun l start values).getD i d = l.getD i d := by
  have hl : (l.take start).length = start := by simp; omega
  simp only [setRun, List.append_assoc, List.getD_eq_getElem?_getD]
  rcases hi with hi | hi
  · rw [List.getElem?_append_left (by omega), List.getElem?_take, if_pos hi]
  · rw [List.getElem?_append_right (by omega), List.getElem?_append_right (by omega), List.getElem?_drop, hl]
    congr 2; omega

/-- A line of the bus reads 0 exactly where something held or a driver drives it 0. -/
theorem bus_getLsbD (held : Lines) (c : Contest) (l : Nat) :
    (c.bus held).getLsbD l =
      ((held.getLsbD l && (c.own.getD released).getLsbD l) && c.rivals.all fun w => w.getLsbD l) := by
  have key : ∀ (ws : List Lines) (b : Lines),
      (ws.foldl (· &&& ·) b).getLsbD l = (b.getLsbD l && ws.all fun w => w.getLsbD l) := by
    intro ws
    induction ws with
    | nil => simp
    | cons w ws ih => intro b; simp [ih, Bool.and_assoc]
  simp [Contest.bus, key]

/-- After a line has settled, the drivers left agree with the bus as it read on that line, or drive it 0. -/
theorem settleLine_rivals (held : Lines) (c : Contest) (l : Nat) :
    (c.settleLine held l).rivals = c.rivals.filter fun w => !w.getLsbD l || (c.bus held).getLsbD l := rfl

end Sys2Proof.Machine
end

