-- ==== Sys2Proof/Tests/Slice0.lean ====
section
/-! SUPPORT. The model's own tests: the operand checks refuse ill-formed happenings, worked examples of the spec come out as
it prints them, and every statement with hypotheses has a state and operands that meet them. -/

namespace Sys2Proof.Tests

open Sys2Proof Sys2Proof.Machine

/-! ### Operand checks -/

theorem test_bytes_after_the_check_are_ill_formed :
    (Instr.commandFrameReceived [0x70#8, 1#8, 0#8, 0x8F#8, 0#8] none).wellFormed = false := by decide
theorem test_whole_frame_is_well_formed :
    (Instr.commandFrameReceived [0x70#8, 1#8, 0#8, 0x8F#8] none).wellFormed = true := by decide
theorem test_command_kind_is_not_ignored : (Instr.ignoredTransaction 1#8 0).wellFormed = false := by decide
theorem test_read_kind_is_not_ignored : (Instr.ignoredTransaction 2#8 0).wellFormed = false := by decide
theorem test_bid_without_presence_is_ill_formed : (Instr.claimRound [0x8000#16] ⟨[], released⟩).wellFormed = false := by decide
theorem test_rival_without_presence_is_ill_formed :
    (Instr.columnResolved [0xE000#16] ⟨[], released⟩ released).wellFormed = false := by decide
theorem test_rival_driving_line_13_is_ill_formed :
    (Instr.columnResolved [0x4000#16] ⟨[], released⟩ released).wellFormed = false := by decide
theorem test_rival_driving_line_14_is_ill_formed :
    (Instr.columnResolved [0x2000#16] ⟨[], released⟩ released).wellFormed = false := by decide
theorem test_seven_settling_values_are_ill_formed :
    (Instr.claimRound [] ⟨List.replicate 7 released, released⟩).wellFormed = false := by decide
theorem test_five_settling_values_are_ill_formed :
    (Instr.columnResolved [] ⟨List.replicate 5 released, released⟩ released).wellFormed = false := by decide
theorem test_no_table_word_spells_a_happening : decodeTableWord 8 0x70 = none := rfl

/-! ### Worked examples of the spec -/

/-- A SHOWN record at a screen line, with the class given. -/
def shown (y height cls : Nat) : ObjectRecord :=
  { ObjectRecord.cleared with state := .shown, screenY := y, width := 1, height := height, cls := cls }

/-- Table 1-5. -/
def tableOneFive : List ObjectRecord :=
  [shown 10 20 3, { shown 0 64 7 with state := .hidden }, shown 0 64 5, .cleared, shown 25 4 3,
    { shown 0 8 7 with state := .terminal }, shown 20 16 7, shown 26 1 6]

/-- 1.7: the candidate list of line 26 is 2, 0, 4. -/
theorem test_candidates_of_line_26 :
    (({ State.reset with table := { objects := tableOneFive, updates := [] } } : State).selected 26).map Candidate.object =
      [2, 0, 4] := by decide

/-- A member of preset 0 that has been synced, with a station number and a frame number. -/
def memberOf (station : BitVec 3) (frame : Byte) : State :=
  { State.reset with
    straps := { station := station, preset := 0#2, video := false }
    link := { State.reset.link with synced := true, frameNumber := frame, lineTimer := some 0 }
    member := { State.reset.member with own := .member } }

/-- The announce window as its line opens, and the same window with its frame word read and a place to come. -/
def windowAt (place : Nat) (read : Bool) : AnnounceWindow :=
  { wordRead := read, listening := false, place := place, heard := [] }

/-- A station with an announce window. -/
def withWindow (s : State) (w : AnnounceWindow) : State := { s with member := { s.member with announce := some w } }

/-- 2.8: station 1 drives 37, reads 36 behind station 4's 38, adopts it and raises SLIP. -/
theorem test_frame_word_of_2_8 :
    (match exec (.frameWord 0xFF26#16) (withWindow (memberOf 1#3 37#8) (windowAt 0 false)) with
      | .next t => (t.link.frameNumber, t.port.events.slip)
      | _ => (0#8, 0)) = (36#8, 1) := by decide

/-- 3.9: a member of station 3 that drives nonce bits reads them wired-AND with the other station's. -/
theorem test_announce_of_3_9 :
    announceWord 0x50#8 false 17#7 &&& announceWord 0x50#8 true 51#7 = announceWord 0x50#8 false 17#7 := by decide

/-- Table 4-1: in frame 14 station 6 has rank 7, station 1 rank 4, station 3 rank 2. -/
theorem test_ranks_of_frame_14 : [6, 1, 3].map (fun n => rotatedRank n 14) = [7, 4, 2] := by decide

/-- A captured copy of an object of one pixel. -/
def copyOf (object cls : Nat) : Candidate := captureRecord object (shown 12 1 cls)

/-- A member in round 0 of a claim window with the candidates given. -/
def bidding (s : State) (candidates : List Candidate) : State :=
  { s with claim := { s.claim with candidates := candidates, window := some 0 } }

/-- 4.7: station 2 with object 6 reads station 3 and object 15 behind its own key 37, and goes to CONFLICT. -/
theorem test_shared_key_of_4_7 :
    (match exec (.claimRound [claimWord 37 3 9] ⟨[], released⟩) (bidding (memberOf 2#3 40#8) [copyOf 6 4]) with
      | .next t => (t.member.own, t.claim.grants)
      | _ => (.listen, [])) = (.conflict, [{ slot := 0, station := 3, object := 15, cls := 4 }]) := by decide

/-- A station in the active part of a line, with the line buffer given, at the column given. -/
def atColumn (s : State) (buffer : List Row) (x : Nat) : State :=
  { s with lines := { s.lines with buffer := buffer, column := some x } }

/-- Table 5-4: the line buffer of station 1. -/
def bufferOfStation1 : List Row :=
  [{ slot := 0, object := 7, cls := 5, join := true, watched := false, first := 11, width := 3,
     pixels := [some 64#8, some 64#8, none], complete := true },
   { slot := 2, object := 3, cls := 3, join := false, watched := true, first := 9, width := 4,
     pixels := [none, some 7#8, some 6#8, some 5#8], complete := true }]

/-- Station 1 of 5.7 with the grant list of Table 5-2. -/
def stationOf57 (x : Nat) : State :=
  let s := atColumn (memberOf 1#3 9#8) bufferOfStation1 x
  { s with claim := { s.claim with
      grants := [⟨0, 1, 7, 5⟩, ⟨1, 4, 2, 5⟩, ⟨2, 1, 3, 3⟩, ⟨3, 4, 10, 3⟩]
      ownGrants := [⟨0, copyOf 7 5⟩, ⟨2, copyOf 3 3⟩] } }

/-- Table 5-5, column 11: station 4's 18 wins slot 1, station 1's join colour 64 is OR-ed in, and 82 is composed. -/
theorem test_column_11_of_5_7 :
    (match exec (.columnResolved [winnerWord 1 18#8 true] ⟨[], released⟩ released) (stationOf57 11) with
      | .next t => t.lines.report.map fun r => (r.winner, r.reading.composed)
      | _ => none) = some (.named 4 2 5, 82#8) := by decide

/-- 6.5: at column 11 station 1's object 3 collides, and its join row does not. -/
theorem test_collision_of_6_5 :
    (match exec (.columnResolved [winnerWord 1 18#8 true] ⟨[], released⟩ released) (stationOf57 11) with
      | .next t => t.collisions.map fun r => (r.frame, r.own, r.station, r.object)
      | _ => []) = [(9#8, 3, 4, 2)] := by decide

/-- 7.7: the image of record R-d. -/
theorem test_pick_image_of_7_7 :
    pickImage { tag := some 5#8, frame := 9#8, x := 11, line := 60, winner := .named 4 2 5, composed := 82#8,
                own := [⟨0, 7, true⟩, ⟨2, 3, false⟩] } =
      [0#8, 5#8, 9#8, 11#8, 0#8, 60#8, 0#8, 0#8, 4#8, 2#8, 5#8, 82#8, 2#8, 0#8, 0x87#8, 2#8, 0x03#8] := by decide

/-- Chapter 9: the LINE from (10, 20) to (15, 18). -/
theorem test_line_pixels :
    (List.range 6).map (linePoint 10 20 15 18) = [(10, 20), (11, 20), (12, 19), (13, 19), (14, 18), (15, 18)] := by decide

/-- 9.10: the end state of the leftward COPY aborted after four pixels. -/
theorem test_abort_end_state_of_9_10 :
    endState (.copy .set false true false false 10 5 12 5 6 1) { Progress.none with done := 4 } =
      [6#8, 0#8, 0#8, 0#8, 4#8, 0#8, 5#8, 0#8, 5#8, 0#8] := by decide

/-- R158: a frame cut inside its first byte is a bad-frame entry of code 00h and tag 0. -/
theorem test_frame_cut_in_its_first_byte :
    (match exec (.commandFrameReceived [] none) State.reset with
      | .next t => t.port.commands
      | _ => []) = [{ bad := true, code := 0#8, tag := 0#8, length := 0, payload := [] }] := by decide

/-! ### Witnesses: the block as a whole, and its resets -/

/-- A live station with one entry in its Command Queue. -/
def queued (e : Entry) : State := { State.reset with port := { State.reset.port with commands := [e] } }

/-- An entry of a live station is taken. -/
theorem queued_takes (e : Entry) : (queued e).Takes e [] :=
  ⟨rfl, rfl, rfl, by show 0 + 0 < 8; decide, fun _ => by show 0 < 4; decide⟩

/-- The station held in reset. -/
def held : State := { State.reset with resetPin := true }

theorem witness_StepRunsTheFrontHappening :
    ({ State.reset with pending := [.readStatus, .frameMark] } : State).pending = .readStatus :: [.frameMark] := rfl

theorem witness_IdleStepPassesOnePixelTime :
    (held.pending = [] ∧ held.resetPin = true) ∧ (State.reset.pending = [] ∧ State.reset.resetPin = false) ∧
    (State.reset.link.pixelTime < 4 ∧ 0 ≤ State.reset.link.pixelTime) ∧ ∃ t, step State.reset = .next t :=
  ⟨⟨rfl, rfl⟩, ⟨rfl, rfl⟩, by decide, _, rfl⟩

theorem witness_ExecKeepsThePendingHappenings : ∃ t, exec .readStatus (queued (.ordinary 0x70#8 9#8 [])) = .next t := ⟨_, rfl⟩

theorem witness_ResetPinSetsEveryBlock : held.resetPin = true ∧ Instr.frameMark ≠ .resetPinAsserted ∧
    ∀ station preset video, Instr.frameMark ≠ .resetPinReleased station preset video :=
  ⟨rfl, by decide, by intros; simp⟩

/-- A station whose port writes its last pixel. -/
def writing (pixels : List Byte) (next : Nat) : State :=
  { State.reset with port := { State.reset.port with transfer := some (.write 9#8 (512 - pixels.length) 511 pixels next) } }

/-- A station whose engine plots. -/
def plotting : State :=
  { State.reset with engine := { mode := .running ⟨9#8, .plot .set false false 511 511 5#8⟩ .none, queue := [] } }

/-- A station whose port reads one pixel. -/
def readingOne : State := { State.reset with port := { State.reset.port with transfer := some (.read 9#8 511 511 1 []) } }

theorem witness_RestartResetsTheBlocks :
    (State.reset.resetPin = false ∧ State.reset.finishFault none = none) ∧
    (writing [7#8, 8#8] 1).resetPin = false ∧ (writing [7#8, 8#8] 1).finishFault (some .port) = none ∧
    (writing [7#8, 8#8] 1).port.transfer = some (.write 9#8 510 511 [7#8, 8#8] 1) ∧
    (writing [7#8, 8#8] 1).mayServe .port = true ∧
    (State.reset.arbiter.held = none ∧ State.reset.serving none = none) ∧
    (plotting.resetPin = false ∧ plotting.finishFault (some .engine) = none ∧ plotting.serving (some .engine) = some .engine ∧
      (engineCurrent plotting.engine.mode).isSome = true) ∧
    (readingOne.finishFault (some .port) = none ∧ readingOne.port.transfer = some (.read 9#8 511 511 1 []) ∧
      readingOne.serving (some .port) = some .port) := by decide

/-! ### Witnesses: the Command Port -/

theorem witness_CommandFrameIsReceived :
    (State.reset.resetPin = false ∧ (List.replicate 255 0#8 : List Byte).length ≤ 255 ∧
      (List.replicate 255 0#8 : List Byte) ≠ [] ∧ ([] : List Byte).length ≤ 255 ∧ (0x3E#8 : Byte) ≠ 0x3F#8 ∧
      (0x3E#8 : Byte) ≠ 0x7F#8) ∧
    (frameWellFormed [] = true ∧ ([] : List Byte).length < 4 + byteAt [] 2) ∧
    (frameWellFormed [0x70#8] = true ∧ [0x70#8].length < 4 + byteAt [0x70#8] 2) ∧
    (frameWellFormed [0x70#8, 1#8, 0#8, 0#8] = true ∧ frameSum [0x70#8, 1#8, 0#8, 0#8] ≠ 0#8) :=
  ⟨⟨rfl, List.length_replicate.le, List.cons_ne_nil 0#8 (List.replicate 254 0#8), by decide, by decide, by decide⟩, by decide,
    by decide, by decide⟩

theorem witness_TransactionsSendTheirBytes :
    State.reset.resetPin = false ∧ ((0#8 : Byte) ≠ 1#8 ∧ (0#8 : Byte) ≠ 2#8) ∧ ((3#8 : Byte) ≠ 1#8 ∧ (3#8 : Byte) ≠ 2#8) ∧
    State.reset.port.responses = [] ∧
    (State.reset.respond 9#8 0x70#8 .ok [1#8]).port.responses = ⟨9#8, 0x70#8, .ok, [1#8]⟩ :: [] := by decide

theorem witness_InterruptFollowsItsCollections :
    (∃ t, exec .resetPinAsserted State.reset = .next t) ∧
    State.reset.resetPin = false ∧ ∃ t, exec (.restart none) State.reset = .next t :=
  ⟨⟨_, rfl⟩, rfl, _, rfl⟩

/-- A PLOT entry behind a Draw Queue that is full. -/
def drawFull : State :=
  { queued (.ordinary 0x34#8 9#8 [0#8, 0#8, 0#8, 0#8, 0#8, 1#8]) with
    engine := { mode := .idle, queue := List.replicate 4 ⟨1#8, .probe false 0 0⟩ } }

/-- A station with eight responses and a command. -/
def responsesFull : State :=
  { State.reset with port := { State.reset.port with
      commands := [.ordinary 0x70#8 9#8 []], responses := List.replicate 8 ⟨1#8, 0x70#8, .ok, []⟩ } }

/-- A station whose port writes its last pixel, with a command behind it. -/
def portHeld : State :=
  let s := writing [7#8, 8#8] 1
  { s with port := { s.port with commands := [.ordinary 0x70#8 9#8 []] } }

theorem witness_HeadIsAnsweredOrWaits :
    (Instr.readStatus ∈ takingRows ∧ portHeld.port.commands = .ordinary 0x70#8 9#8 [] :: [] ∧
      portHeld.port.transfer ≠ none) ∧
    (Instr.badFrameEntryTaken ∈ takingRows ∧ drawFull.port.commands = .ordinary 0x34#8 9#8 [0#8, 0#8, 0#8, 0#8, 0#8, 1#8] :: [] ∧
      (Entry.ordinary 0x34#8 9#8 [0#8, 0#8, 0#8, 0#8, 0#8, 1#8]).isDraw = true ∧ 4 ≤ drawFull.engine.queue.length) ∧
    (Instr.readEvents ∈ takingRows ∧ responsesFull.port.commands = .ordinary 0x70#8 9#8 [] :: [] ∧
      8 ≤ responsesFull.port.responses.length + responsesFull.unanswered) := by decide

theorem witness_HeadIsAnswered :
    (queued (badEntry [0x70#8])).Takes (badEntry [0x70#8]) [] ∧ (badEntry [0x70#8]).bad = true ∧
    (queued (.ordinary 0x36#8 9#8 [])).Takes (.ordinary 0x36#8 9#8 []) [] ∧ commandOf 0x36#8 = none ∧
    (queued (.ordinary 0x10#8 9#8 [1#8])).Takes (.ordinary 0x10#8 9#8 [1#8]) [] ∧
    commandOf 0x10#8 = some .objectWrite ∧ commandAllows .objectWrite 1 = false :=
  ⟨queued_takes _, rfl, queued_takes _, by decide, queued_takes _, by decide, by decide⟩

theorem witness_ReadStatusReturnsTheStatus :
    (queued (.ordinary 0x70#8 9#8 [])).Takes (.ordinary 0x70#8 9#8 []) [] := queued_takes _

/-- A command behind one pick record. -/
def picked : State :=
  { queued (.ordinary 0x51#8 9#8 []) with picks := { State.reset.picks with
      queue := [{ tag := none, frame := 9#8, x := 0, line := 60, winner := .backdrop, composed := 0#8, own := [] }] } }

theorem witness_ReadsAnswerFromTheRecords :
    ((queued (.ordinary 0x71#8 9#8 [])).Takes (.ordinary 0x71#8 9#8 []) [] ∧
      (queued (.ordinary 0x60#8 9#8 [])).Takes (.ordinary 0x60#8 9#8 []) []) ∧
    (∀ n ∈ [0#8, 1#8, 8#8, 9#8], (queued (.ordinary 0x58#8 9#8 [n])).Takes (.ordinary 0x58#8 9#8 [n]) []) ∧
    ((0#8 : Byte) = 0#8 ∧ 8 < (9#8 : Byte).toNat ∧ 1 ≤ (1#8 : Byte).toNat ∧ (8#8 : Byte).toNat ≤ 8) ∧
    ((queued (.ordinary 0x51#8 9#8 [])).Takes (.ordinary 0x51#8 9#8 []) [] ∧
      (queued (.ordinary 0x51#8 9#8 [])).picks.queue = []) ∧
    (picked.Takes (.ordinary 0x51#8 9#8 []) [] ∧ ∃ r others, picked.picks.queue = r :: others) :=
  ⟨⟨queued_takes _, queued_takes _⟩, fun _ _ => queued_takes _, by decide, ⟨queued_takes _, rfl⟩,
    ⟨rfl, rfl, rfl, by decide, fun _ => by decide⟩, _, _, rfl⟩

/-- A record at the limits of R1. -/
def limitRecord : ObjectRecord :=
  { state := .shown, screenX := -64, screenY := 1023, width := 64, height := 64, sourceX := 448, sourceY := 448, cls := 7,
    join := true, watched := true, mirror := true, tint := some { start := 448, length := 64 } }

theorem witness_FramesAndPayloadsReadBack :
    ((List.replicate 248 0#8 : List Byte).length ≤ 248 ∧ commandOf 0x20#8 ≠ some .drawAbort ∧
      commandOf 0x20#8 ≠ some .restart) ∧
    recordSound limitRecord = true ∧ recordSound .cleared = true ∧
    recordSound { limitRecord with screenX := 1023, tint := none } = true ∧
    drawFits (.fill .invert true true 511 511 512 512 255#8) = true ∧
    drawFits (.copy .xor true true true true 0 511 511 0 512 1) = true ∧ drawFits (.probe false 0 511) = true :=
  ⟨⟨List.length_replicate.le, by decide, by decide⟩, by decide⟩

/-! ### Witnesses: objects, tints and the palette -/

/-- An image whose state byte is given, of a record of one pixel. -/
def imageOf (state : Byte) : List Byte :=
  [state, 0#8, 0#8, 0#8, 0#8, 1#8, 1#8, 0#8, 0#8, 0#8, 0#8, 0#8, 0#8, 0#8, 0#8]

theorem witness_RecordImageIsCheckedWhole :
    (imageOf 0#8).length = 15 ∧ byteAt (imageOf 0#8) 0 = 0 ∧ 3 < byteAt (imageOf 4#8) 0 ∧
    (1 ≤ byteAt (imageOf 1#8) 0 ∧ byteAt (imageOf 3#8) 0 ≤ 3) ∧
    (readImage (imageOf 1#8)).isSome = true ∧ (readImage (imageOf 3#8)).isSome = true := by decide

/-- A command taken with a number of updates waiting. -/
def withUpdates (n : Nat) (e : Entry) : State :=
  { queued e with table := { State.reset.table with updates := List.replicate n (.move 0 0 0) } }

theorem withUpdates_takes (n : Nat) (e : Entry) : (withUpdates n e).Takes e [] :=
  ⟨rfl, rfl, rfl, by show 0 + 0 < 8; decide, fun _ => by show 0 < 4; decide⟩

theorem witness_ObjectWriteSetsOrQueuesTheRecord :
    (∀ timing ∈ [0#8, 2#8], ∀ n ∈ [0#8, 47#8, 48#8],
      (queued (.ordinary 0x10#8 9#8 (timing :: n :: imageOf 2#8))).Takes (.ordinary 0x10#8 9#8 (timing :: n :: imageOf 2#8)) []) ∧
    (∀ n ∈ [47#8, 48#8], ∀ level ∈ [15, 16],
      (withUpdates level (.ordinary 0x10#8 9#8 (1#8 :: n :: imageOf 2#8))).Takes
        (.ordinary 0x10#8 9#8 (1#8 :: n :: imageOf 2#8)) []) ∧
    ((imageOf 2#8).length = 15 ∧ (47#8 : Byte).toNat < 48 ∧ 48 ≤ (48#8 : Byte).toNat ∧ (0#8 : Byte) ≠ 1#8 ∧ (2#8 : Byte) ≠ 1#8) ∧
    (∃ r, readImage (imageOf 2#8) = some r) ∧ readImage (imageOf 4#8) = none ∧
    (withUpdates 15 (badEntry [])).table.updates.length < 16 ∧ 16 ≤ (withUpdates 16 (badEntry [])).table.updates.length :=
  ⟨fun _ _ _ _ => queued_takes _, fun _ _ _ _ => withUpdates_takes _ _, by decide, ⟨_, rfl⟩, by decide, by decide, by decide⟩

/-- A move command at a station whose record 47 is SHOWN. -/
def withShown (e : Entry) : State :=
  { queued e with table := { objects := (List.replicate 48 ObjectRecord.cleared).set 47 (shown 0 1 0), updates := [] } }

theorem witness_ObjectMoveSetsOrQueuesThePosition :
    (∀ n ∈ [0#8, 47#8, 48#8], (withShown (.ordinary 0x11#8 9#8 [0#8, n, 0xC0#8, 0xFF#8, 0xFF#8, 0x03#8])).Takes
        (.ordinary 0x11#8 9#8 [0#8, n, 0xC0#8, 0xFF#8, 0xFF#8, 0x03#8]) []) ∧
    (∀ level ∈ [15, 16], (withUpdates level (.ordinary 0x11#8 9#8 [1#8, 47#8, 0xFF#8, 0x03#8, 0#8, 0#8])).Takes
        (.ordinary 0x11#8 9#8 [1#8, 47#8, 0xFF#8, 0x03#8, 0#8, 0#8]) []) ∧
    ((0xFF#8 ++ 0xC0#8 : BitVec 16).toInt = -64 ∧ (0x03#8 ++ 0xFF#8 : BitVec 16).toInt = 1023 ∧
      (0x03#8 ++ 0xFF#8 : BitVec 16).toNat = 1023 ∧ 1023 < (0x04#8 ++ 0x00#8 : BitVec 16).toNat) ∧
    ((withShown (badEntry [])).table.objects.getD 47 .cleared).state ≠ .empty ∧
    ((withShown (badEntry [])).table.objects.getD 0 .cleared).state = .empty :=
  ⟨fun _ _ => ⟨rfl, rfl, rfl, by show 0 + 0 < 8; decide, fun _ => by show 0 < 4; decide⟩, fun _ _ => withUpdates_takes _ _,
    by decide, by decide, by decide⟩

theorem witness_ObjectReadReturnsTheRecord :
    (∀ n ∈ [0#8, 47#8, 48#8], (queued (.ordinary 0x12#8 9#8 [n])).Takes (.ordinary 0x12#8 9#8 [n]) []) ∧
    (47#8 : Byte).toNat < 48 ∧ 48 ≤ (48#8 : Byte).toNat := ⟨fun _ _ => queued_takes _, by decide, by decide⟩

theorem witness_FlushPendingDiscardsTheEntries :
    (withUpdates 16 (.ordinary 0x13#8 9#8 [])).Takes (.ordinary 0x13#8 9#8 []) [] := withUpdates_takes _ _

theorem witness_TintAndPaletteWritesSetARun :
    (∀ s0 ∈ [0xFE#8, 0xFF#8], (queued (.ordinary 0x14#8 9#8 (s0 :: 0x01#8 :: [5#8, 6#8]))).Takes
        (.ordinary 0x14#8 9#8 (s0 :: 0x01#8 :: [5#8, 6#8])) []) ∧
    (State.reset.tints.length = 512 ∧ (0x01#8 ++ 0xFE#8 : BitVec 16).toNat + 2 = 512 ∧
      512 < (0x01#8 ++ 0xFF#8 : BitVec 16).toNat + 2) ∧
    (∀ level ∈ [63#8, 64#8], (queued (.ordinary 0x40#8 9#8 (255#8 :: [level, 0#8, 63#8]))).Takes
        (.ordinary 0x40#8 9#8 (255#8 :: [level, 0#8, 63#8])) []) ∧
    (State.reset.output.palette.length = 256 ∧ (255#8 : Byte).toNat + [Rgb.black].length ≤ 256 ∧
      63 < (64#8 : Byte).toNat ∧ 256 < (255#8 : Byte).toNat + [Rgb.black, Rgb.black].length) :=
  ⟨fun _ _ => queued_takes _, ⟨List.length_replicate, by decide, by decide⟩, fun _ _ => queued_takes _,
    List.length_replicate, by decide, by decide, by decide⟩

theorem witness_TableFeedsTheCandidateList :
    (0 < tableOneFive.length ∧ 7 < tableOneFive.length) ∧ ∀ r ∈ tableOneFive, r.cls ≤ 7 := by decide

/-! ### Witnesses: link timing -/

/-- A member at a line, with a leading edge that waits for its decision point. -/
def edgeAt (line : Nat) : State :=
  let s := memberOf 0#3 9#8
  { s with link := { s.link with lineCounter := line, edgeSeen := true } }

/-- A member whose own mark stands on LMARK, with its edge still to be decided or not. -/
def asserting (kind : MarkKind) (edge : Bool) : State :=
  let s := edgeAt 3
  { s with link := { s.link with lmark := some kind, edgeSeen := edge } }

/-- A station at a pixel time of its line, with the windows and the column of a line all still to be held. -/
def atPixel (time : Nat) : State :=
  let s := withWindow (atColumn (memberOf 0#3 9#8) [] 0) (windowAt 0 false)
  { s with link := { s.link with pixelTime := time } }

/-- R29: the last pixel time of the line still holds its column, and a line that runs past its end holds nothing. -/
theorem test_line_past_its_end_holds_nothing :
    [399, 400].map (fun time => ((atPixel time).columnDue, match exec (.frameWord 0xFF26#16) (atPixel time) with
      | .next t => t.link.frameNumber
      | _ => 0#8)) = [(true, 0#8), (false, 9#8)] := by decide

theorem witness_LeadingEdgeCutsTheLine :
    (atPixel 400).geometry.linePixels ≤ (atPixel 400).link.pixelTime ∧
    ((edgeAt 0).resetPin = false ∧ (edgeAt 0).link.edgeSeen = true) ∧
    ((bidding (memberOf 0#3 9#8) [copyOf 1 3]).resetPin = false ∧ (bidding (memberOf 0#3 9#8) [copyOf 1 3]).link.edgeSeen = false ∧
      (bidding (memberOf 0#3 9#8) [copyOf 1 3]).link.lmark = none) ∧
    (∀ kind ∈ [MarkKind.line, .frame], (asserting kind false).resetPin = false ∧ (asserting kind false).link.edgeSeen = false ∧
      (asserting kind false).link.lmark = some kind) ∧
    ∃ t, exec .lmarkLeadingEdge (bidding (memberOf 0#3 9#8) [copyOf 1 3]) = .next t :=
  ⟨by decide, ⟨rfl, rfl⟩, ⟨rfl, rfl, rfl⟩, by decide, _, rfl⟩

/-- A member whose own frame assertion has ended, with its edge still to be decided. -/
def frameOver : State :=
  let s := edgeAt 3
  { s with link := { s.link with frameDriven := true, pixelTime := 9 } }

/-- R31: a station that drove a frame mark sees a frame mark, though its assertion has ended by then. -/
theorem test_own_frame_mark_is_seen_late :
    (match exec .lineMark frameOver with
      | .next t => (t.link.lineCounter, t.link.frameNumber)
      | _ => (9, 0#8)) = (0, 10#8) := by decide

/-- A member whose line timer holds a time at the pixel time of another station's edge. -/
def atOtherEdge (line time : Nat) : State :=
  let s := edgeAt line
  { s with link := { s.link with lineTimer := some time } }

/-- R31: stations whose timers run out at one pixel time drive the mark together, whoever's edge is seen first. -/
theorem test_joint_mark_is_driven :
    [(3, 400), (261, 400), (261, 399)].map (fun p => match exec .lineTimerRunsOut (atOtherEdge p.1 p.2) with
      | .next t => t.link.lmark
      | _ => none) = [some .line, some .frame, none] := by decide

/-- A member whose detach is pending. -/
def detaching (s : State) : State := { s with member := { s.member with detachPending := true } }

theorem witness_LineMarkAdvancesTheCounter :
    (∀ line ∈ [0, 238, 239, 240, 260, 261], (edgeAt line).resetPin = false ∧ (edgeAt line).link.edgeSeen = true ∧
      (edgeAt line).link.lmark ≠ some .frame ∧ (edgeAt line).link.frameDriven = false ∧
      (edgeAt line).link.synced = true) ∧
    ((edgeAt 261).geometry.totalLines ≤ 261 + 1 ∧ ¬(edgeAt 260).geometry.totalLines ≤ 260 + 1) ∧
    (238 + 1 < (edgeAt 238).geometry.activeLines ∧ 239 + 1 = (edgeAt 239).geometry.activeLines ∧
      (edgeAt 240).geometry.activeLines < 240 + 1) ∧
    ((detaching (edgeAt 0)).member.detachPending = true ∧ (detaching (edgeAt 0)).member.own = .member) ∧
    ((asserting .frame true).resetPin = false ∧ (asserting .frame true).link.edgeSeen = true ∧
      (asserting .frame true).link.lmark = some .frame) ∧
    (frameOver.resetPin = false ∧ frameOver.link.edgeSeen = true ∧ frameOver.link.frameDriven = true) := by decide

/-- A station whose engine waits for a frame mark with a command. -/
def waiting (d : DrawCmd) (s : State) : State := { s with engine := { mode := .waiting ⟨9#8, d⟩, queue := [] } }

/-- A queue whose first command presents no access, with one that runs behind it. -/
theorem skipsOne :
    SkipsTo [⟨1#8, .plot .set true false 0 0 0#8⟩] [⟨2#8, .probe false 0 0⟩, ⟨3#8, .plot .set true false 0 0 0#8⟩] :=
  ⟨by decide, by decide⟩

/-- A queue with nothing in it. -/
theorem skipsNone : SkipsTo [] [] := ⟨by decide, by decide⟩

theorem witness_FrameMarkOpensLineZero :
    (∀ line ∈ [260, 261], (edgeAt line).resetPin = false ∧ (edgeAt line).link.edgeSeen = true) ∧
    (260 + 1 ≠ (edgeAt 260).geometry.totalLines ∧ 261 + 1 = (edgeAt 261).geometry.totalLines) ∧
    (1 ≤ ((Shortfall.cleared 9#8).deny 3 false 5).denied ∧ (edgeAt 261).claim.current.denied = 0) ∧
    ((∀ e, (edgeAt 261).engine.mode ≠ .waiting e) ∧ presentsNothing (.plot .set false true 0 0 0#8) = false ∧
      presentsNothing (.plot .set true true 0 0 0#8) = true ∧
      (waiting (.plot .set true true 0 0 0#8) (edgeAt 261)).engine.queue = []) ∧
    SkipsTo [⟨1#8, .plot .set true false 0 0 0#8⟩] [⟨2#8, .probe false 0 0⟩, ⟨3#8, .plot .set true false 0 0 0#8⟩] :=
  ⟨by decide, by decide, by decide, ⟨(fun _ h => nomatch h), by decide, by decide, rfl⟩, skipsOne⟩

/-- A station at a frame mark, in a state, with a window wait count and an admitted flag. -/
def waits (own : OwnState) (count : Nat) (admitted : Bool) : State :=
  let s := edgeAt 261
  { s with member := { s.member with own := own, windowWait := count, admitted := admitted } }

theorem witness_FrameMarkChangesTheOwnState :
    ((waits .member 2 false).resetPin = false ∧ (waits .member 2 false).link.edgeSeen = true ∧
      (waits .member 2 false).link.synced = true ∧ 2 ≤ (waits .member 2 false).member.windowWait) ∧
    (¬2 ≤ (waits .joining 1 true).member.windowWait ∧ (waits .joining 1 true).member.admitted = true ∧
      (waits .joining 1 true).member.own = .joining) ∧
    (¬2 ≤ (detaching (waits .member 1 false)).member.windowWait ∧
      (detaching (waits .member 1 false)).member.detachPending = true) ∧
    ¬2 ≤ (waits .listen 0 false).member.windowWait := by decide

/-- An observer whose silence count has come to its last line period. -/
def silentIn (own : OwnState) : State :=
  { State.reset with
    link := { State.reset.link with synced := true, silenceCount := 523, silencePixels := 399 }
    member := { State.reset.member with own := own } }

/-- A listener one pixel time before its silence limit, with an edge seen at a position. -/
def silentAtEdge (at' : Nat) : State :=
  let s := silentIn .listen
  { s with link := { s.link with edgeSeen := true, pixelTime := at' } }

theorem witness_LinkClocksRunOut :
    ((memberOf 0#3 9#8).resetPin = false ∧ (memberOf 0#3 9#8).link.lineTimer = some 0 ∧
      (memberOf 0#3 9#8).link.edgeSeen = false) ∧
    (∀ line ∈ [3, 261], ∀ time ∈ [399, 400], (atOtherEdge line time).resetPin = false ∧
      (atOtherEdge line time).link.lineTimer = some time ∧ (atOtherEdge line time).link.edgeSeen = true ∧
      (atOtherEdge line time).link.pixelTime = 0 ∧ (atOtherEdge line time).geometry.linePixels = 400) ∧
    (∀ own ∈ [OwnState.listen, .detached], (silentIn own).resetPin = false ∧ (silentIn own).link.lineTimer = none ∧
      (silentIn own).link.edgeSeen = false ∧ (silentIn own).link.synced = true ∧ (silentIn own).member.own = own) ∧
    (∀ at' ∈ [2, 3], (silentAtEdge at').resetPin = false ∧ (silentAtEdge at').link.lineTimer = none ∧
      (silentAtEdge at').link.edgeSeen = true ∧ (silentAtEdge at').silenceLeft = 1 ∧
      (silentAtEdge at').link.pixelTime = at' ∧ (silentAtEdge at').member.own = .listen) := by decide

theorem witness_FrameWordIsAdopted :
    let s := withWindow (memberOf 1#3 37#8) (windowAt 0 false)
    s.resetPin = false ∧ s.link.synced = true ∧ s.link.pixelTime < s.geometry.linePixels ∧
    s.member.announce = some (windowAt 0 false) ∧
    (windowAt 0 false).wordRead = false ∧ s.member.own.drives = true ∧
    ((0xFF26#16 &&& (0xFF#8 ++ s.link.frameNumber : Lines)).extractLsb' 0 8 : Byte) ≠ s.link.frameNumber ∧
    ((0xFFFF#16 &&& (0xFF#8 ++ s.link.frameNumber : Lines)).extractLsb' 0 8 : Byte) = s.link.frameNumber := by decide

/-! ### Witnesses: membership -/

/-- A member table entry at a missed count. -/
def present (missed : Nat) : MemberEntry := { MemberEntry.absent with present := true, code := 0x50#8, missed := missed }

/-- A member of station 7 at a place of the window, with the entry given for every place. -/
def atPlace (place : Nat) (e : MemberEntry) : State :=
  let s := withWindow (memberOf 7#3 9#8) (windowAt place true)
  { s with member := { s.member with members := List.replicate 8 e } }

/-- A member of station 0 at place 7, with the entry given for every place. -/
def atLastPlace (e : MemberEntry) : State :=
  let s := withWindow (memberOf 0#3 9#8) (windowAt 7 true)
  { s with member := { s.member with members := List.replicate 8 e } }

theorem witness_OtherPlaceIsTaken :
    (∀ place ∈ [0, 6], ∀ e ∈ [MemberEntry.absent, present 2, present 3],
      (atPlace place e).resetPin = false ∧ (atPlace place e).link.synced = true ∧
      (atPlace place e).link.pixelTime < (atPlace place e).geometry.linePixels ∧
      (atPlace place e).member.announce = some (windowAt place true) ∧ (windowAt place true).wordRead = true ∧
      place < 7 ∧ place < (atPlace place e).member.members.length ∧
      (windowAt place true).place ≠ (atPlace place e).straps.station.toNat ∧
      (atPlace place e).member.members.getD place .absent = e) ∧
    (∀ e ∈ [MemberEntry.absent, present 2, present 3],
      (atLastPlace e).resetPin = false ∧ (atLastPlace e).link.synced = true ∧
      (atLastPlace e).link.pixelTime < (atLastPlace e).geometry.linePixels ∧
      (atLastPlace e).member.announce = some (windowAt 7 true) ∧ 7 < (atLastPlace e).member.members.length ∧
      (atLastPlace e).straps.station.toNat ≠ 7 ∧ (atLastPlace e).member.members.getD 7 .absent = e) ∧
    (((0xFF50#16 : Lines).extractLsb' 0 8 : Byte) ≠ 0xFF#8 ∧ ¬((0xFFFF#16 : Lines).extractLsb' 0 8 : Byte) ≠ 0xFF#8) := by
  decide

/-- A driving station at its own place. -/
def ownPlace (station : BitVec 3) (own : OwnState) : State :=
  let s := withWindow (memberOf station 9#8) (windowAt station.toNat true)
  { s with member := { s.member with own := own } }

/-- Whatever a station drives, a link on which nothing else drives delivers it. -/
theorem witness_OwnPlaceIsAnnouncedAndCompared :
    (∀ station ∈ [0#3, 6#3], ∀ own ∈ [OwnState.founding, .joining, .member],
      (ownPlace station own).resetPin = false ∧ (ownPlace station own).link.synced = true ∧
      (ownPlace station own).link.pixelTime < (ownPlace station own).geometry.linePixels ∧
      (ownPlace station own).member.announce = some (windowAt station.toNat true) ∧ (windowAt station.toNat true).wordRead = true ∧
      station.toNat < 7 ∧ (windowAt station.toNat true).place = (ownPlace station own).straps.station.toNat ∧
      (ownPlace station own).member.own.drives = true) ∧
    (∀ own ∈ [OwnState.founding, .joining, .member],
      (ownPlace 7#3 own).resetPin = false ∧ (ownPlace 7#3 own).link.synced = true ∧
      (ownPlace 7#3 own).link.pixelTime < (ownPlace 7#3 own).geometry.linePixels ∧
      (ownPlace 7#3 own).member.announce = some (windowAt 7 true) ∧ (windowAt 7 true).wordRead = true ∧
      (ownPlace 7#3 own).straps.station.toNat = 7 ∧ (ownPlace 7#3 own).member.own.drives = true) ∧
    (∀ driven : Lines, 0xFFFF#16 &&& driven = driven) ∧
    (∀ nonceAndJoin : Byte, (0#16 : Lines) &&& (nonceAndJoin ++ 0x50#8) ≠ nonceAndJoin ++ 0x50#8) := by
  refine ⟨by decide, by decide, fun driven => BitVec.allOnes_and, fun n h => ?_⟩
  have h6 := congrArg (fun w : Lines => w.getLsbD 6) h
  simp only [BitVec.getLsbD_and, BitVec.getLsbD_append] at h6
  simp at h6

/-- A station at the last place of its window, listening to it or not. -/
def lastPlace (station : BitVec 3) (own : OwnState) (listens : Nat) : State :=
  let s := withWindow (memberOf station 9#8) { windowAt 7 true with listening := own == .listen, heard := [] }
  { s with member := { s.member with own := own, listenCount := listens } }

theorem witness_CompleteWindowDecides :
    (∀ listens ∈ [0, 1], ∀ station ∈ [0#3, 7#3], ∃ w, (lastPlace station .listen listens).member.announce = some w ∧
      (lastPlace station .listen listens).resetPin = false ∧ (lastPlace station .listen listens).link.synced = true ∧
      (lastPlace station .listen listens).link.pixelTime < (lastPlace station .listen listens).geometry.linePixels ∧
      w.wordRead = true ∧ w.place = 7 ∧ w.listening = true ∧ (lastPlace station .listen listens).member.own = .listen ∧
      (lastPlace station .listen listens).member.listenCount = listens) ∧
    (let s := withWindow (lastPlace 7#3 .listen 1) (windowAt 7 true)
     s.resetPin = false ∧ s.link.synced = true ∧ s.link.pixelTime < s.geometry.linePixels ∧
     s.member.announce = some (windowAt 7 true) ∧
     (windowAt 7 true).listening = false ∧ s.member.own = .listen) ∧
    (∃ w, (lastPlace 0#3 .member 0).member.announce = some w ∧ w.wordRead = true ∧ w.place = 7 ∧
      (lastPlace 0#3 .member 0).link.pixelTime < (lastPlace 0#3 .member 0).geometry.linePixels ∧
      (lastPlace 0#3 .member 0).member.own = .member ∧ (lastPlace 0#3 .member 0).straps.station.toNat ≠ 7) ∧
    (∀ driven : Lines, 0xFFFF#16 &&& driven = driven) :=
  ⟨fun l hl st hs => ⟨_, rfl, rfl, rfl, (by decide : 0 < 400), rfl, rfl, rfl, rfl, rfl⟩, by decide,
    ⟨_, rfl, rfl, rfl, by decide, rfl, by decide⟩,
    fun _ => BitVec.allOnes_and⟩

theorem witness_ReadMembersReturnsTheTable :
    (queued (.ordinary 0x61#8 9#8 [])).Takes (.ordinary 0x61#8 9#8 []) [] := queued_takes _

/-- A command at a station in a state, with a silence count. -/
def commanded (own : OwnState) (silence : Nat) (e : Entry) : State :=
  { queued e with
    link := { State.reset.link with silenceCount := silence, synced := true }
    member := { State.reset.member with own := own } }

theorem commanded_takes (own : OwnState) (silence : Nat) (e : Entry) : (commanded own silence e).Takes e [] :=
  ⟨rfl, rfl, rfl, by show 0 + 0 < 8; decide, fun _ => by show 0 < 4; decide⟩

theorem witness_DetachActsByTheOwnState :
    ∀ own ∈ [OwnState.listen, .member, .detached],
      (commanded own 0 (.ordinary 0x62#8 9#8 [])).Takes (.ordinary 0x62#8 9#8 []) [] ∧
      (commanded own 0 (.ordinary 0x62#8 9#8 [])).member.own = own := fun _ _ => ⟨commanded_takes _ _ _, rfl⟩

/-- R32, R54: a REJOIN at a silence count of 2 × T finds the station without sync, and founds; below it, sync is kept. -/
theorem test_rejoin_on_a_silent_link_has_lost_sync :
    [523, 524].map (fun n => match exec .rejoin (commanded .detached n (.ordinary 0x63#8 9#8 [])) with
      | .next t => (t.member.own, t.link.synced)
      | _ => (.refused, true)) = [(.listen, true), (.founding, false)] := by decide

/-- A station in DETACHED, with a REJOIN at the head, at a pixel time of line A. -/
def rejoiningAt (time : Nat) (read : Bool) : State :=
  let s := withWindow (commanded .detached 0 (.ordinary 0x63#8 9#8 [])) (windowAt 0 read)
  { s with link := { s.link with pixelTime := time } }

/-- R52, R65: a window whose frame word is still to come when REJOIN is taken counts; one in progress does not. -/
theorem test_window_begun_before_rejoin_does_not_count :
    [(4, false), (7, false), (8, false), (11, true)].map (fun p => match exec .rejoin (rejoiningAt p.1 p.2) with
      | .next t => t.member.announce.map AnnounceWindow.listening
      | _ => none) = [some true, some true, some false, some false] := by decide

theorem witness_RejoinEntersListen :
    (∀ own ∈ [OwnState.listen, .detached, .conflict, .refused], ∀ silence ∈ [0, 523, 524],
      (commanded own silence (.ordinary 0x63#8 9#8 [])).Takes (.ordinary 0x63#8 9#8 []) [] ∧
      (commanded own silence (.ordinary 0x63#8 9#8 [])).member.own = own ∧
      (commanded own silence (.ordinary 0x63#8 9#8 [])).link.silenceCount = silence ∧
      (commanded own silence (.ordinary 0x63#8 9#8 [])).link.synced = true) ∧
    523 < 2 * (queued (badEntry [])).geometry.totalLines ∧ 2 * (queued (badEntry [])).geometry.totalLines ≤ 524 :=
  ⟨fun _ _ _ _ => ⟨commanded_takes _ _ _, rfl, rfl, rfl⟩, by decide, by decide⟩

theorem witness_OwnStateChangesAsTabulated :
    ∃ t, exec .detach (commanded .listen 0 (.ordinary 0x62#8 9#8 [])) = .next t ∧ t.member.own = .detached := ⟨_, rfl, rfl⟩

/-! ### Witnesses: slot claims -/

theorem witness_KeyCombinesClassAndRank :
    (copyOf 1 7).cls ≤ 7 ∧ (0 < 8 ∧ 7 < 8) ∧ rotatedRank 7 255 = rotatedRank 7 255 := by decide

theorem witness_RoundSettlesOnTheHighestKey :
    ∀ b ∈ [(63, 7, 63), (0, 0, 0), (63, 1, 4)], b.1 < 64 ∧ b.2.1 < 8 ∧ b.2.2 < 64 := by decide

/-- A window with one own grant, and a round in which nothing is driven. -/
def oneGrant (own : OwnState) : State :=
  let s := bidding (memberOf 0#3 9#8) []
  { s with
    member := { s.member with own := own }
    claim := { s.claim with window := some 1, grants := [⟨0, 0, 1, 3⟩], ownGrants := [⟨0, copyOf 1 3⟩] } }

/-- A round that station 0 bids for with object 1 of class 3, in a window with a grant list. -/
def inRound (r : Nat) (grants : List Grant) : State :=
  let s := bidding (memberOf 0#3 0#8) [copyOf 1 3]
  { s with claim := { s.claim with window := some r, grants := grants } }

/-- In the last of these rounds something holds key line 14 low, and the bidder withdraws. -/
theorem witness_BlankRoundClosesTheWindow :
    ∀ own ∈ [OwnState.member, .detached], (oneGrant own).resetPin = false ∧ (oneGrant own).claim.window = some 1 ∧
      (oneGrant own).link.pixelTime < (oneGrant own).geometry.linePixels ∧
      (inRound 0 []).link.pixelTime < (inRound 0 []).geometry.linePixels ∧
      isBlank (((oneGrant own).settledRound [] ⟨[], released⟩).bus released) = true ∧
      (oneGrant own).claim.ownGrants = ⟨0, copyOf 1 3⟩ :: [] ∧ (oneGrant own).member.own = own ∧
      (inRound 0 []).claim.candidates = copyOf 1 3 :: [] ∧
      isBlank (((inRound 0 []).settledRound [] ⟨[], 0xBFFF#16⟩).bus 0xBFFF#16) = true ∧
      (Shortfall.cleared 9#8).firstLine = none ∧ ((Shortfall.cleared 9#8).deny 3 false 5).firstLine ≠ none := by decide

/-- What the round of a state delivers. -/
def roundWord (s : State) (bids : List Lines) : Lines := (s.settledRound bids ⟨[], released⟩).bus released

theorem witness_DrivenRoundIsRecordedAndCompared :
    (∀ n ∈ [0, 1, 15], (inRound n []).link.pixelTime < (inRound n []).geometry.linePixels) ∧
    ((inRound 15 []).resetPin = false ∧ (inRound 15 []).claim.window = some 15 ∧ (inRound 15 []).member.own = .member ∧
      (inRound 15 []).claim.candidates = copyOf 1 3 :: []) ∧
    (isBlank (roundWord (inRound 0 []) []) = false ∧ claimStation (roundWord (inRound 0 []) []) = 0 ∧
      claimObject (roundWord (inRound 0 []) []) = 1 ∧ ((inRound 0 []).settledRound [] ⟨[], released⟩).own.isSome = true) ∧
    (⟨0, 0, 1, 3⟩ : Grant) ∈ (inRound 1 [⟨0, 0, 1, 3⟩]).claim.grants ∧
    (isBlank (roundWord (inRound 0 []) [claimWord 31 2 4]) = false ∧
      claimKey (roundWord (inRound 0 []) [claimWord 31 2 4]) = (inRound 0 []).keyFor (copyOf 1 3) ∧
      claimStation (roundWord (inRound 0 []) [claimWord 31 2 4]) = 2) ∧
    (isBlank (roundWord (inRound 0 []) [claimWord 63 2 4]) = false ∧
      claimKey (roundWord (inRound 0 []) [claimWord 63 2 4]) ≠ (inRound 0 []).keyFor (copyOf 1 3)) := by decide

/-- R78: a station cut off after key line 14 has settled makes the bidder withdraw, and leaves a round of no key and no number,
with presence driven, to be read. -/
theorem test_partly_formed_round_is_recorded :
    (match exec (.claimRound [] ⟨[0xBFFF#16], 0x7FFF#16⟩) (inRound 0 []) with
      | .next t => (t.claim.grants, t.claim.ownGrants.length, t.claim.candidates.length)
      | _ => ([], 0, 0)) = ([⟨0, 0, 0, 0⟩], 0, 1) := by decide

/-! ### Witnesses: line assembly -/

/-- A fetch of a copy of a width and tint, whose row is in progress at its first pixel, with a next grant or none. -/
def fetching (width : Nat) (mirror : Bool) (tint : Option Tint) (next : List OwnGrant) : State :=
  let g : OwnGrant := ⟨0, { copyOf 1 3 with screenY := 0, width := width, mirror := mirror, tint := tint }⟩
  let s := memberOf 0#3 9#8
  { s with
    claim := { s.claim with ownGrants := g :: next }
    lines := { s.lines with buffer := [startRow g], fetching := true, column := some 0 } }

theorem witness_FetchReadsTheRowOfTheCopy :
    (∀ width ∈ [1, 2], ∀ mirror ∈ [false, true], ∀ tint ∈ [none, some (Tint.mk 511 1)],
      (fetching width mirror tint []).resetPin = false ∧ (fetching width mirror tint []).lines.fetching = true ∧
      (fetching width mirror tint []).claim.ownGrants[(fetching width mirror tint []).lines.buffer.length - 1]? =
        (fetching width mirror tint []).claim.ownGrants.head? ∧
      ((fetching width mirror tint []).lines.buffer.getLast?.map fun r => (r.complete, r.pixels.length, r.width)) =
        some (false, 0, width) ∧
      (fetching width mirror tint []).fetchFault = none ∧ (fetching width mirror tint []).arbiter.held = none ∧
      (fetching width mirror tint []).claim.ownGrants[(fetching width mirror tint []).lines.buffer.length]? = none) ∧
    (fetching 1 false none [⟨1, copyOf 2 3⟩]).claim.ownGrants[(fetching 1 false none [⟨1, copyOf 2 3⟩]).lines.buffer.length]? =
      some ⟨1, copyOf 2 3⟩ := by decide

theorem witness_ColumnSettlesOnTheLowestSlot : ∀ b ∈ [(15, 255#8, true), (0, 0#8, false), (0, 7#8, true)], b.1 < 16 := by
  decide

theorem witness_OwnRowsDriveTheColumn :
    (stationOf57 11).lines.buffer.Pairwise (fun a b => a.slot < b.slot) ∧ (stationOf57 11).member.own = .member ∧
    State.reset.member.own ≠ .member ∧ (stationOf57 11).claim.grants.find? (fun g => g.slot == 4) = none ∧
    (stationOf57 11).claim.grants.find? (fun g => g.slot == 1) = some ⟨1, 4, 2, 5⟩ ∧
    ((stationOf57 11).contribution 11).map Row.object = some 3 ∧
    (stationOf57 11).contributionWord 11 = some (winnerWord 2 6#8 true) ∧ (stationOf57 11).contribution 9 = none := by decide

/-- R92: a row of two pixels from screen column 511 covers 511 and 512, and nothing where it is not complete. -/
theorem test_row_covers_its_columns :
    [510, 511, 512, 513].map (Row.mk 0 3 5 false false 511 2 [some 6#8, some 7#8] true).entryAt =
      [none, some 6#8, some 7#8, none] ∧
    (Row.mk 0 3 5 false false 511 2 [some 6#8, some 7#8] false).entryAt 511 = none := by decide

theorem witness_ColumnIsComposedAndReported :
    ∀ x ∈ [0, 11, 319], (stationOf57 x).resetPin = false ∧ (stationOf57 x).columnDue = true ∧
      (stationOf57 x).lines.column = some x := by decide

theorem witness_VideoPinsFollowTheStrap :
    (∀ preset : BitVec 2, ({ State.reset with straps := ⟨0#3, preset, true⟩ } : State).straps.preset = preset) ∧
    State.reset.straps.video = false ∧
    ({ State.reset with straps := ⟨0#3, 0#2, true⟩ } : State).straps.video = true ∧
    ({ State.reset with straps := ⟨0#3, 0#2, true⟩ } : State).link.lineCounter <
      ({ State.reset with straps := ⟨0#3, 0#2, true⟩ } : State).geometry.totalLines := by decide

/-! ### Witnesses: collisions and picks -/

/-- A column report with a watched winner. -/
def watchedReport : ColumnReport :=
  { line := 60, x := 11, reading := { slot := some 1, colour := 18#8, watched := true, composed := 82#8 },
    winner := .named 4 2 5, own := [⟨0, 7, true, false⟩, ⟨2, 3, false, true⟩] }

/-- A log of a number of records. -/
def logged (n : Nat) : State :=
  { memberOf 1#3 9#8 with collisions := (List.range n).map fun k => ⟨9#8, 80, 200, 20, 6, k, false⟩ }

theorem witness_WatchedLosersAreLoggedOncePerPair :
    ((memberOf 1#3 9#8).member.own = .member ∧ watchedReport.winner = .named 4 2 5 ∧
      watchedReport.reading.watched = true ∧ State.reset.member.own ≠ .member) ∧
    (∃ r ∈ (logged 8).collisions, r.frame = 9#8 ∧ r.own = 20 ∧ r.station = 6 ∧ r.object = 7) ∧
    (∃ older newest, (logged 8).collisions = older ++ [newest]) ∧ 8 ≤ (logged 8).collisions.length ∧
    (logged 7).collisions.length < 8 ∧ ¬∃ r ∈ (logged 8).collisions, r.object = 9 :=
  ⟨by decide, by decide, ⟨(logged 7).collisions, ⟨9#8, 80, 200, 20, 6, 7, false⟩, by decide⟩, by decide, by decide, by decide⟩

/-- A PICK AT with a number of points waiting. -/
def withPoints (n : Nat) (e : Entry) : State :=
  { queued e with picks := { State.reset.picks with points := List.replicate n ⟨1#8, 0, 0⟩ } }

theorem witness_PickAtPlacesAPoint :
    (∀ x0 ∈ [0x3F#8, 0x40#8], ∀ y0 ∈ [239#8, 240#8], ∀ level ∈ [3, 4],
      (withPoints level (.ordinary 0x50#8 9#8 [x0, 1#8, y0, 0#8])).Takes (.ordinary 0x50#8 9#8 [x0, 1#8, y0, 0#8]) []) ∧
    ((1#8 ++ 0x3F#8 : BitVec 16).toNat < State.reset.geometry.activePixels ∧
      State.reset.geometry.activePixels ≤ (1#8 ++ 0x40#8 : BitVec 16).toNat ∧
      (0#8 ++ 239#8 : BitVec 16).toNat < State.reset.geometry.activeLines ∧
      State.reset.geometry.activeLines ≤ (0#8 ++ 240#8 : BitVec 16).toNat) :=
  ⟨fun _ _ _ _ _ _ => ⟨rfl, rfl, rfl, by show 0 + 0 < 8; decide, fun _ => by show 0 < 4; decide⟩, by decide⟩

theorem witness_ColumnReportResolvesPicks :
    let s : State := { memberOf 1#3 9#8 with
      port := { State.reset.port with events := { Events.none with pick := 255 } }
      picks := { State.reset.picks with points := [⟨5#8, 11, 60⟩, ⟨7#8, 13, 60⟩], trigger := true } }
    s.port.events.pick ≤ 255 ∧ s.port.events.pickLost ≤ 255 ∧ s.picks.trigger = true ∧ watchedReport.x ≠ 0 := by decide

/-- A station in the pixel time of a column, whose next column is given, with a trigger waiting or a pick made there. -/
def inPixel (x next : Nat) (trigger taken : Bool) (queue : Nat) : State :=
  let s := memberOf 1#3 9#8
  { s with
    link := { s.link with pixelTime := 80 + x }
    lines := { s.lines with column := some next, report := some { watchedReport with x := x } }
    picks := { s.picks with trigger := trigger, edgeTaken := taken
                            queue := List.replicate queue ⟨none, 9#8, 0, 0, .backdrop, 0#8, []⟩ } }

theorem witness_PickEdgeIsPlacedByItsPixelTime :
    (State.reset.resetPin = false ∧ State.reset.link.synced = false) ∧
    ((memberOf 1#3 9#8).link.synced = true ∧ (memberOf 1#3 9#8).columnNow = none) ∧
    (∀ x ∈ [0, 319], ∀ taken ∈ [false, true], ∀ queue ∈ [3, 4],
      (inPixel x (x + 1) false taken queue).columnNow = some x ∧
      (inPixel x (x + 1) false taken queue).lines.report = some { watchedReport with x := x } ∧
      (inPixel x (x + 1) false taken queue).lines.column = some (x + 1) ∧
      (inPixel x (x + 1) false taken queue).picks.edgeTaken = taken ∧
      (inPixel x (x + 1) false taken queue).picks.queue.length = queue) ∧
    (∀ x ∈ [0, 319], ∀ trigger ∈ [false, true], (inPixel x x trigger false 0).link.synced = true ∧
      (inPixel x x trigger false 0).columnNow = some x ∧ (inPixel x x trigger false 0).lines.column = some x ∧
      (inPixel x x trigger false 0).picks.trigger = trigger) ∧
    (∀ p ∈ [(1, 0), (319, 318)], (inPixel p.1 p.2 false false 0).link.synced = true ∧
      (inPixel p.1 p.2 false false 0).columnNow = some p.1 ∧ (inPixel p.1 p.2 false false 0).lines.column = some p.2 ∧
      p.2 < p.1) := by decide

/-! ### Witnesses: the Surface Store -/

theorem witness_SurfaceTransferBegins :
    (∀ y1 ∈ [1#8, 2#8], ∀ n ∈ [1, 240],
      (queued (.ordinary 0x20#8 9#8 ([0x10#8, 1#8, 0xFF#8, y1] ++ List.replicate n 5#8))).Takes
        (.ordinary 0x20#8 9#8 ([0x10#8, 1#8, 0xFF#8, y1] ++ List.replicate n 5#8)) [] ∧
      1 ≤ (List.replicate n 5#8).length ∧ (List.replicate n 5#8).length ≤ 240) ∧
    ((1#8 ++ 0xFF#8 : BitVec 16).toNat ≤ 511 ∧ 511 < (2#8 ++ 0xFF#8 : BitVec 16).toNat ∧
      (1#8 ++ 0x10#8 : BitVec 16).toNat + 240 = 512) ∧
    (∀ count ∈ [0#8, 1#8, 240#8, 241#8], (queued (.ordinary 0x21#8 9#8 [0x10#8, 1#8, 0xFF#8, 1#8, count])).Takes
        (.ordinary 0x21#8 9#8 [0x10#8, 1#8, 0xFF#8, 1#8, count]) []) :=
  ⟨fun _ _ n hn => ⟨queued_takes _, by fin_cases hn <;> simp [-List.reduceReplicate]⟩, by decide, fun _ _ => queued_takes _⟩

/-- A station whose port reads, with a fetch that waits behind an access of the port already under service. -/
def reading (count : Nat) (got : List Byte) : State :=
  let s := fetching 2 false none []
  { s with port := { s.port with transfer := some (.read 9#8 (512 - count) 511 count got) }
           arbiter := { portMayHold := true, engineMayHold := false } }

/-- A station whose three clients all have an access at the arbiter, with one held or none. -/
def contending (held : Option Client) : State :=
  let s := fetching 2 false none []
  { s with
    port := { s.port with transfer := some (.read 9#8 510 511 2 []) }
    arbiter := { portMayHold := false, engineMayHold := false, held := held }
    engine := { mode := .running ⟨9#8, .plot .set false false 511 511 5#8⟩ .none, queue := [] } }

/-- A station whose engine has withdrawn the access that was known to be under service. -/
def withdrawn : State := { State.reset with arbiter := { State.reset.arbiter with held := some .engine } }

theorem witness_PortAccessIsServed :
    ((contending (some .port)).arbiter.held = some .port ∧ (contending (some .port)).presents .port = true) ∧
    (withdrawn.arbiter.held = some .engine ∧ withdrawn.presents .engine = false) ∧ Memory.wf State.reset.surface = true ∧
    (∀ next ∈ [0, 1], (writing [7#8, 8#8] next).resetPin = false ∧ (writing [7#8, 8#8] next).lines.fetching = false ∧
      (writing [7#8, 8#8] next).port.transfer = some (.write 9#8 510 511 [7#8, 8#8] next) ∧ 510 + next ≤ 511) ∧
    (∀ got ∈ [[], [3#8]], (reading 2 got).resetPin = false ∧ (reading 2 got).arbiter.portMayHold = true ∧
      (reading 2 got).port.transfer = some (.read 9#8 510 511 2 got) ∧ 510 + got.length ≤ 511 ∧
      (reading 2 got).arbiter.held = none) ∧
    (∀ held ∈ [none, some Client.fetch, some .engine], (contending held).lines.fetching = true ∧
      (contending held).arbiter.portMayHold = false ∧ (contending held).arbiter.held ≠ some .port) ∧
    (∀ held ∈ [none, some Client.fetch, some .port], (contending held).lines.fetching = true ∧
      (contending held).port.transfer ≠ none ∧ (contending held).arbiter.engineMayHold = false ∧
      (contending held).arbiter.held ≠ some .engine) ∧
    (∀ held ∈ [Client.fetch, .port, .engine], (contending (some held)).arbiter.held = some held ∧
      engineCurrent (contending (some held)).engine.mode ≠ none) := by decide

/-- Table 8-1: after a read of a fetch that goes on, the next read alone is served, and after the last the port's access. -/
theorem test_fetch_keeps_the_surface :
    [1, 2].map (fun width =>
      let s := { contending none with
        lines := (fetching width false none []).lines, claim := (fetching width false none []).claim }
      match exec .fetchAccessServed s with
      | .next t => (t.lines.fetching, t.mayServe .fetch, t.mayServe .port, t.mayServe .engine)
      | _ => (false, false, false, false)) = [(false, false, true, false), (true, true, false, false)] := by decide

/-- R133: a frame that finds no access being served leaves the choice to the order, the fetch before the engine and the port. -/
theorem test_nothing_in_service_leaves_the_order :
    (let s := contending none
     let t := ({ s with arbiter := { portMayHold := true, engineMayHold := true } } : State).hold none
     (t.mayServe .fetch, t.mayServe .port, t.mayServe .engine)) = (true, false, false) := by decide

/-- A station whose engine runs a command from its start. -/
def running (d : DrawCmd) (p : Progress) (queue : List DrawEntry) : State :=
  { State.reset with engine := { mode := .running ⟨9#8, d⟩ p, queue := queue } }

theorem witness_SurfaceChangesOnlyByServedWrites :
    (∃ t, exec .portWriteAccessServed (writing [7#8] 0) = .next t ∧ t.pixel 511 511 ≠ (writing [7#8] 0).pixel 511 511) ∧
    (∃ t, exec .engineAccessServed (running (.plot .set false false 511 511 5#8) .none []) = .next t ∧
      t.pixel 511 511 ≠ (running (.plot .set false false 511 511 5#8) .none []).pixel 511 511) ∧
    (∃ t, exec (.restart (some .port)) (writing [7#8] 0) = .next t ∧ t.pixel 511 511 ≠ (writing [7#8] 0).pixel 511 511) ∧
    (∃ t, exec (.restart (some .engine)) plotting = .next t ∧ t.pixel 511 511 ≠ plotting.pixel 511 511) :=
  ⟨⟨_, rfl, by decide⟩, ⟨_, rfl, by decide⟩, ⟨_, rfl, by decide⟩, _, rfl, by decide⟩

/-! ### Witnesses: the Drawing Engine -/

/-- The payload of a PLOT at (511, 511). -/
def plotPayload (mode colour : Byte) : List Byte := [mode, 0xFF#8, 1#8, 0xFF#8, 1#8, colour]

theorem witness_DrawCommandIsAccepted :
    (((.plot, .plot, 0x34#8, 6) : Instr × Command × Byte × Nat) ∈ drawRows) ∧
    (∀ mode ∈ [0#8, 8#8, 0x80#8, 5#8], (queued (.ordinary 0x34#8 9#8 (plotPayload mode 0#8))).Takes
        (.ordinary 0x34#8 9#8 (plotPayload mode 0#8)) [] ∧ (plotPayload mode 0#8).length = 6) ∧
    (readDraw .plot (plotPayload 5#8 0#8) = none ∧
      readDraw .plot (plotPayload 0#8 0#8) = some (.plot .set false false 511 511 0#8) ∧
      readDraw .plot (plotPayload 8#8 0#8) = some (.plot .set true false 511 511 0#8) ∧
      readDraw .plot (plotPayload 0x80#8 0#8) = some (.plot .set false true 511 511 0#8)) ∧
    (State.reset.engine = { mode := .idle, queue := [] } ∧ (running (.probe false 0 0) .none []).engine.mode ≠ .idle) ∧
    (∀ row ∈ drawRows, (List.replicate row.2.2.2 0#8).length = row.2.2.2) ∧
    (readDraw .fill [4#8, 0xFF#8, 1#8, 0#8, 0#8, 0#8, 2#8, 1#8, 0#8, 9#8]).isSome = true ∧
    readDraw .fill [4#8, 0xFF#8, 1#8, 0#8, 0#8, 1#8, 2#8, 1#8, 0#8, 9#8] = none ∧
    readDraw .seek [0x40#8, 0#8, 0#8, 0#8, 0#8, 0#8] = none :=
  ⟨by decide, fun _ _ => ⟨queued_takes _, rfl⟩, by decide, by decide, by decide, by decide, by decide, by decide⟩

/-- The two lines that end at corners of the surface, at their first and their last pixel. -/
theorem witness_LineTakesItsPixels :
    0 < pixelCount (.line .set false false 0 511 511 0 1#8) ∧ pixelCount (.line .set false false 0 511 511 0 1#8) = 511 + 1 ∧
    pixelCount (.line .set false false 5 5 5 5 1#8) = 1 := by decide

theorem witness_EngineWritesItsPixel :
    (∀ done ∈ [0, 1], (running (.fill .xor false false 510 511 512 512 5#8) { Progress.none with done := done } []).resetPin =
        false ∧
      (accessPosition (.fill .xor false false 510 511 512 512 5#8) { Progress.none with done := done }).1 ≤ 511 ∧
      (accessPosition (.fill .xor false false 510 511 512 512 5#8) { Progress.none with done := done }).2 ≤ 511 ∧
      (running (.fill .xor false false 510 511 512 512 5#8) { Progress.none with done := done } []).lines.fetching = false ∧
      (running (.fill .xor false false 510 511 512 512 5#8) { Progress.none with done := done } []).port.transfer = none) ∧
    (0 + 1 < pixelCount (.fill .xor false false 510 511 512 512 5#8) ∧
      pixelCount (.fill .xor false false 510 511 512 512 5#8) ≤ 1 + 1 ∧
      pixelCount (.plot .set false false 0 0 1#8) ≤ 0 + 1) ∧
    (1 ≤ min 512 (512 - 510) ∧ min 512 (512 - 510) * min 512 (512 - 511) = 2) ∧
    (drawSync (.probe true 0 0) = true ∧ drawSync (.probe false 0 0) = false ∧ presentsNothing (.probe false 0 0) = false) ∧
    SkipsTo [⟨1#8, .plot .set true false 0 0 0#8⟩] [⟨2#8, .probe false 0 0⟩, ⟨3#8, .plot .set true false 0 0 0#8⟩] :=
  ⟨by decide, by decide, by decide, by decide, skipsOne⟩

theorem witness_EngineReadsForSeekProbeAndCopy :
    (∀ done ∈ [0, 511], done < (if true = true then 511 + 1 else 512 - 511) ∧
      (running (.seek true false false 511 0 5#8) { Progress.none with done := done } []).engine =
        { mode := .running ⟨9#8, .seek true false false 511 0 5#8⟩ { Progress.none with done := done }, queue := [] }) ∧
    (running (.probe false 511 511) .none []).engine = { mode := .running ⟨9#8, .probe false 511 511⟩ .none, queue := [] } ∧
    (drawFits (.copy .set true true false false 10 5 12 5 6 1) = true ∧ 0 + 1 < 6 * 1 ∧
      (running (.copy .set true true false false 10 5 12 5 6 1) .none []).pixel (10 + (6 - 1 - 0 % 6)) 5 = 0#8 ∧
      (running (.copy .set true true false false 10 5 12 5 6 1) .none []).lines.fetching = false) ∧
    (drawFits (.copy .set false false true false 511 511 0 0 2 2) = true ∧ 0 < min 2 (min (512 - 511) (512 - 0)) ∧
      0 + 1 = min 2 (min (512 - 511) (512 - 0)) * min 2 (min (512 - 511) (512 - 0))) ∧ SkipsTo [] [] :=
  ⟨by decide, by decide, by decide, by decide, skipsNone⟩

theorem witness_FillFillsItsCutRectangle :
    let s := running (.fill .or true false 511 0 512 512 5#8) .none []
    s.resetPin = false ∧ s.lines.fetching = false ∧ s.port.transfer = none ∧ Memory.wf s.surface = true ∧
    s.engine = { mode := .running ⟨9#8, .fill .or true false 511 0 512 512 5#8⟩ Progress.none, queue := [] } := by decide

/-- A station whose engine stops after the pixel in progress. -/
def stopping (source : Option Byte) : State :=
  let copy : DrawEntry := ⟨11#8, .copy .set false true false false 10 5 12 5 6 1⟩
  { State.reset with engine :=
      ⟨.stopping copy { Progress.none with done := 3, source := source } [⟨12#8, .plot .set false false 0 0 1#8⟩], []⟩ }

theorem witness_DrawAbortStopsTheEngine :
    (State.reset.engine = { mode := .idle, queue := [] } ∧
      (waiting (.probe true 0 0) State.reset).engine.mode = .waiting ⟨9#8, .probe true 0 0⟩) ∧
    ((running (.probe false 0 0) .none []).resetPin = false ∧ (running (.probe false 0 0) .none []).arbiter.held = none ∧
      (running (.probe false 0 0) .none []).serving none ≠ some .engine ∧
      (running (.probe false 0 0) .none []).serving (some .engine) = some .engine) ∧
    (∀ held ∈ [Client.fetch, .port, .engine], (contending (some held)).presents held = true) ∧ SkipsTo [] [] ∧
    (∀ source ∈ [none, some 3#8], (stopping source).resetPin = false ∧ (stopping source).lines.fetching = false ∧
      (stopping source).port.transfer = none ∧ (stopping source).engineFault = none) :=
  ⟨⟨rfl, rfl⟩, ⟨rfl, rfl, by decide, rfl⟩, by decide, skipsNone, fun _ hs => ⟨rfl, rfl, rfl, by fin_cases hs <;> rfl⟩⟩

/-! ### Witnesses: the whole machine -/

/-- A detached observer that is not synced, in frame 5. -/
def observer : State :=
  { State.reset with
    link := { State.reset.link with frameNumber := 5#8 }
    member := { State.reset.member with own := .detached } }

theorem observer_linkSound : observer.LinkSound :=
  ⟨by decide, by decide, rfl, fun _ => ⟨rfl, rfl, rfl⟩, (fun h => nomatch h), (fun h => nomatch h), by decide, by decide, rfl,
    by decide, (fun _ h => nomatch h), (fun h => nomatch h), fun _ => ⟨rfl, rfl, rfl, rfl⟩⟩

theorem witness_UnsyncedStationTakesNoPart :
    (({ observer with link := { observer.link with edgeSeen := true } } : State).resetPin = false ∧
      ({ observer with link := { observer.link with edgeSeen := true } } : State).link.edgeSeen = true ∧
      ({ observer with link := { observer.link with edgeSeen := true } } : State).link.lmark ≠ some .frame ∧
      ({ observer with link := { observer.link with edgeSeen := true } } : State).link.frameDriven = false ∧
      ({ observer with link := { observer.link with edgeSeen := true } } : State).link.synced = false) ∧
    observer.link.synced = false ∧ observer.LinkSound := ⟨by decide, rfl, observer_linkSound⟩

theorem witness_StepKeepsTheSizes :
    (observer.WithinCapacity ∧ observer.ShapeSound ∧ (stationOf57 11).OrderSound) ∧
    (∃ t, step observer = .next t) ∧ ∃ t, step (stationOf57 11) = .next t :=
  ⟨⟨⟨by decide, by decide, by decide, fun _ => rfl, by decide, by decide, (fun _ h => nomatch h), by decide, by decide, by decide,
      by decide, by decide, by decide⟩,
    ⟨List.length_replicate, List.length_replicate, List.length_replicate, rfl, rfl, by decide⟩,
    ⟨by decide, by decide, by decide, by decide, by decide, by decide, by decide⟩⟩, ⟨_, rfl⟩, _, rfl⟩

theorem witness_StepKeepsTheLinkSound : observer.LinkSound ∧ ∃ t, step observer = .next t := ⟨observer_linkSound, _, rfl⟩

theorem witness_StepKeepsThePlacesSound : (writing [7#8, 8#8] 1).PlacesSound :=
  ⟨fun r hr => by rw [List.eq_of_mem_replicate hr]; decide, (fun _ h => nomatch h), (fun _ h => nomatch h),
    fun t ht => by obtain rfl : _ = t := Option.some.inj ht; decide, (fun _ h => nomatch h), rfl, (fun h => nomatch h),
    (fun h => by rcases h with h | h <;> cases h), (fun h => nomatch h), (fun h => nomatch h)⟩

end Sys2Proof.Tests
end

section
/-! SUPPORT. The capacities, the fixed sizes and the orders, kept by each named operation, by each happening and by each step. -/

namespace Sys2Proof.Machine

/-- One state keeps the three invariants of another: capacities, fixed sizes, orders. Each is kept by itself. -/
structure State.Keeps (s t : State) : Prop where
  capacity : s.WithinCapacity → t.WithinCapacity
  shape : s.ShapeSound → t.ShapeSound
  order : s.OrderSound → t.OrderSound

theorem State.Keeps.refl (s : State) : s.Keeps s := ⟨id, id, id⟩

theorem State.Keeps.trans {s t u : State} (h : s.Keeps t) (k : t.Keeps u) : s.Keeps u :=
  ⟨k.capacity ∘ h.capacity, k.shape ∘ h.shape, k.order ∘ h.order⟩

theorem State.Keeps.ite {c : Prop} [Decidable c] {s t u : State} (ht : s.Keeps t) (hu : s.Keeps u) :
    s.Keeps (if c then t else u) := by
  split
  · exact ht
  · exact hu

/-- A list of updates keeps what each one keeps. -/
theorem foldl_keeps {α : Type} {f : State → α → State} (h : ∀ (s : State) (a : α), s.Keeps (f s a)) (l : List α) (s : State) :
    s.Keeps (l.foldl f s) := by
  induction l generalizing s with
  | nil => exact .refl s
  | cons a l ih => exact (h s a).trans (ih _)

/-! ### What the three invariants speak of -/

/-- The collections of a station, which alone the three invariants speak of. -/
structure Stores where
  commands : List Entry
  responses : List Response
  transfer : Option Transfer
  events : Events
  engine : Engine
  table : ObjectTable
  tints : List Byte
  palette : List Rgb
  members : List MemberEntry
  candidates : List Candidate
  window : Option Nat
  grants : List Grant
  ownGrants : List OwnGrant
  buffer : List Row
  collisions : List CollisionRecord
  points : List PickPoint
  picks : List PickRecord
  surface : Memory

/-- The collections as the state holds them. -/
def State.stores (s : State) : Stores :=
  { commands := s.port.commands, responses := s.port.responses, transfer := s.port.transfer, events := s.port.events
    engine := s.engine, table := s.table, tints := s.tints, palette := s.output.palette, members := s.member.members
    candidates := s.claim.candidates, window := s.claim.window, grants := s.claim.grants, ownGrants := s.claim.ownGrants
    buffer := s.lines.buffer, collisions := s.collisions, points := s.picks.points, picks := s.picks.queue
    surface := s.surface }

/-- States with the same collections meet the same three invariants. -/
theorem keeps_of_stores {s t : State} (h : t.stores = s.stores) : s.Keeps t := by
  simp only [State.stores, Stores.mk.injEq] at h
  obtain ⟨hcommands, hresponses, htransfer, hevents, hengine, htable, htints, hpalette, hmembers, hcandidates, hwindow, hgrants,
    hown, hbuffer, hcollisions, hpoints, hpicks, hsurface⟩ := h
  have hreserved : t.reserved = s.reserved := by
    simp only [State.reserved, State.unanswered, hresponses, hengine, htransfer]
  refine ⟨fun h => ?_, fun h => ?_, fun h => ?_⟩
  · constructor <;>
      simp only [hreserved, hcommands, hengine, htable, hcandidates, hwindow, hgrants, hown, hbuffer, hpoints, hpicks, hcollisions]
    exacts [h.commands, h.budget, h.drawQueue, h.idleEmpty, h.updates, h.candidates, h.rounds, h.grants, h.ownGrants, h.buffer,
      h.points, h.picks, h.collisions]
  · constructor <;> simp only [htable, htints, hpalette, hmembers, hsurface, hevents]
    exacts [h.objects, h.tints, h.palette, h.members, h.surface, h.events]
  · constructor <;> simp only [hgrants, hown, hwindow, hbuffer, hcollisions]
    exacts [h.grants, h.pairs, h.ownGrants, h.rounds, h.buffer, h.rows, h.log]

/-- What an operation keeps, it keeps from any state with the same collections. -/
theorem State.Keeps.after {s t u : State} (h : t.Keeps u) (hs : t.stores = s.stores) : s.Keeps u :=
  (keeps_of_stores hs).trans h

/-! ### The named operations -/

theorem raise_keeps (s : State) (k : EventKind) : s.Keeps (s.raise k) :=
  ⟨fun h => { h with }, fun h => { h with events := Events.raise_le k _ h.events }, fun h => { h with }⟩

theorem reach_keeps (s : State) (p : Nat) : s.Keeps (s.reach p) := .ite (keeps_of_stores rfl) (.refl s)

theorem tick_keeps (s : State) : s.Keeps s.tick := .ite (.refl s) (keeps_of_stores rfl)

theorem served_keeps (s : State) : s.Keeps s.served := keeps_of_stores rfl

theorem restartClocks_keeps (s : State) : s.Keeps s.restartClocks := keeps_of_stores rfl

theorem drive_keeps (s : State) (w : Lines) : s.Keeps (s.drive w) := keeps_of_stores rfl

theorem changeState_keeps (s : State) (new : OwnState) : s.Keeps (s.changeState new) :=
  (raise_keeps s .state).trans (keeps_of_stores (by unfold State.changeState; split <;> rfl))

theorem setPixel_keeps (s : State) (x y : Nat) (v : Byte) : s.Keeps (s.setPixel x y v) :=
  ⟨fun h => { h with }, fun h => { h with surface := Memory.wf_write _ _ _ h.surface }, fun h => { h with }⟩

theorem portWrites_keeps (s : State) : s.Keeps s.portWrites := by
  obtain h | ⟨_, _, _, _, _, -, h⟩ := portWrites_cases s <;> rw [h]
  · exact .refl s
  · exact setPixel_keeps ..

theorem engineWrites_keeps (s : State) : s.Keeps s.engineWrites := by
  obtain h | ⟨_, _, _, -, -, h⟩ := engineWrites_cases s <;> rw [h]
  · exact .refl s
  · exact setPixel_keeps ..

/-- The Command Queue may only lose its entries, and the Response Queue its responses. -/
theorem sentOut_keeps (s : State) (commands : List Entry) (responses : List Response) (pdo : List Byte)
    (hc : commands.length ≤ s.port.commands.length) (hr : responses.length ≤ s.port.responses.length) :
    s.Keeps { s with port := { s.port with commands := commands, responses := responses, pdo := pdo } } := by
  refine ⟨fun h => { h with commands := hc.trans h.commands, budget := ?_ }, fun h => { h with }, fun h => { h with }⟩
  have hb := h.budget
  simp only [State.reserved, State.unanswered] at hb ⊢
  omega

theorem readOut_keeps (s : State) (count : Nat) : s.Keeps (s.readOut count) := by
  unfold State.readOut
  split
  · exact keeps_of_stores rfl
  · split
    · exact keeps_of_stores rfl
    · rename_i hq
      exact sentOut_keeps s _ _ _ le_rfl (by simp [hq])

theorem offerEntry_keeps (s : State) (e : Entry) : s.Keeps (s.offerEntry e) := by
  unfold State.offerEntry
  split
  · rename_i hroom
    refine ⟨fun h => { h with commands := ?_ }, fun h => { h with }, fun h => { h with }⟩
    rw [List.length_append]
    exact hroom
  · exact raise_keeps ..

/-! ### The resets -/

theorem reset_withinCapacity : State.reset.WithinCapacity := by
  constructor <;> decide

theorem reset_shapeSound : State.reset.ShapeSound :=
  ⟨List.length_replicate, List.length_replicate, List.length_replicate, List.length_replicate, rfl, by decide⟩

theorem reset_orderSound : State.reset.OrderSound := by
  constructor <;> decide

theorem pinReset_keeps (s : State) (pin : Bool) (straps : Straps) : s.Keeps (s.pinReset pin straps) := by
  have h : State.reset.Keeps (s.pinReset pin straps) := keeps_of_stores rfl
  exact ⟨fun _ => h.capacity reset_withinCapacity, fun _ => h.shape reset_shapeSound, fun _ => h.order reset_orderSound⟩

theorem restartBlocks_keeps (s : State) : s.Keeps s.restartBlocks :=
  ⟨fun _ => { reset_withinCapacity with },
    fun h => { reset_shapeSound with
      tints := h.tints, palette := h.palette, surface := h.surface, events := Events.raise_le .state .none (by decide) },
    fun _ => { reset_orderSound with }⟩

theorem restarted_keeps (s : State) (inService : Option Client) : s.Keeps (s.restarted inService) := by
  refine .trans ?_ (restartBlocks_keeps _)
  unfold State.finishAccess
  split
  · exact .refl s
  · exact .refl s
  · exact portWrites_keeps s
  · exact engineWrites_keeps s

/-! ### The line in hand, marks and the own state -/

theorem cutWindow_keeps (s : State) : s.Keeps s.cutWindow := by
  unfold State.cutWindow
  split
  · exact .refl s
  · exact ⟨fun h => { h with rounds := nofun }, fun h => { h with }, fun h => { h with rounds := nofun }⟩

theorem endLine_keeps (s : State) : s.Keeps s.endLine := (cutWindow_keeps s).trans (keeps_of_stores rfl)

theorem releaseMark_keeps (s : State) : s.Keeps s.releaseMark := by
  unfold State.releaseMark
  split
  · exact .refl s
  · exact (reach_keeps s _).trans (keeps_of_stores rfl)

theorem startLine_keeps (s : State) : s.Keeps s.startLine := (endLine_keeps s).trans (keeps_of_stores rfl)

theorem leadingEdge_keeps (s : State) : s.Keeps s.leadingEdge :=
  .ite (.refl s) ((releaseMark_keeps s).trans (startLine_keeps _))

theorem driveMark_keeps (s : State) (kind : MarkKind) : s.Keeps (s.driveMark kind) :=
  (leadingEdge_keeps s).trans (keeps_of_stores rfl)

theorem timerRunsOut_keeps (s : State) : s.Keeps s.timerRunsOut := by
  unfold State.timerRunsOut
  split
  · exact .refl s
  · exact .after (driveMark_keeps _ _) rfl

theorem found_keeps (s : State) : s.Keeps s.found :=
  ((changeState_keeps s .founding).trans (driveMark_keeps _ .frame)).trans (keeps_of_stores rfl)

theorem loseSync_keeps (s : State) : s.Keeps s.loseSync := .ite ((endLine_keeps s).trans (keeps_of_stores rfl)) (.refl s)

theorem atSilenceLimit_keeps (s : State) : s.Keeps s.atSilenceLimit :=
  .ite (.ite ((loseSync_keeps s).trans (found_keeps _)) (loseSync_keeps s)) (.refl s)

theorem silenceReached_keeps (s : State) : s.Keeps s.silenceReached := by
  unfold State.silenceReached
  exact .after (atSilenceLimit_keeps _) rfl

theorem consumeFlags_keeps (s : State) (kind : MarkKind) : s.Keeps (s.consumeFlags kind) :=
  .ite (changeState_keeps s _) (.ite (changeState_keeps s _) (.refl s))

theorem frameMembership_keeps (s : State) (wasSynced : Bool) : s.Keeps (s.frameMembership wasSynced) :=
  .ite (.ite (changeState_keeps s _) (.after (consumeFlags_keeps _ _) rfl)) (consumeFlags_keeps s _)

theorem frameCount_keeps (s : State) : s.Keeps s.frameCount :=
  .trans (.ite (raise_keeps s .slip) (.refl s)) (keeps_of_stores rfl)

theorem openActiveLine_keeps (s : State) (L : Nat) : s.Keeps (s.openActiveLine L) := by
  rw [openActiveLine_eq]
  refine ⟨fun h => { h with
      candidates := List.length_take_le _ _, rounds := ?_, grants := Nat.zero_le _, ownGrants := le_rfl, buffer := le_rfl },
    fun h => { h with }, fun h => { h with
      grants := .nil, pairs := .nil, ownGrants := .nil, rounds := fun _ _ => ⟨nofun, nofun⟩, buffer := .nil
      rows := List.nil_prefix }⟩
  rintro r ⟨⟩
  exact ⟨rfl, by decide⟩

theorem advanceLine_keeps (s : State) : s.Keeps s.advanceLine :=
  .ite (raise_keeps s .slip) (.ite (.after (openActiveLine_keeps _ _) rfl)
    (.ite (keeps_of_stores rfl) (keeps_of_stores rfl)))

theorem takeLineMark_keeps (s : State) : s.Keeps s.takeLineMark :=
  have flags : s.Keeps (s.restartClocks.consumeFlags .line) := .after (consumeFlags_keeps _ _) rfl
  .ite (flags.trans (advanceLine_keeps _)) flags

theorem applyUpdate_length (objects : List ObjectRecord) (u : PendingEntry) : (applyUpdate objects u).length = objects.length := by
  cases u with
  | whole n r => exact List.length_set
  | move n x y =>
    simp only [applyUpdate]
    split
    · rfl
    · exact List.length_set

theorem applyUpdates_keeps (s : State) : s.Keeps s.applyUpdates := by
  have hlength : ∀ (l : List PendingEntry) (objects : List ObjectRecord), (l.foldl applyUpdate objects).length = objects.length := by
    intro l
    induction l with
    | nil => exact fun _ => rfl
    | cons u l ih => exact fun objects => (ih _).trans (applyUpdate_length objects u)
  exact ⟨fun h => { h with updates := Nat.zero_le _ }, fun h => { h with objects := (hlength _ _).trans h.objects },
    fun h => { h with }⟩

theorem turnOver_keeps (s : State) : s.Keeps s.turnOver := .trans (.ite (raise_keeps s .shortfall) (.refl s)) (keeps_of_stores rfl)

/-! ### The announce window -/

theorem readFrameWord_keeps (s : State) (w : AnnounceWindow) (others : Lines) : s.Keeps (s.readFrameWord w others) := by
  unfold State.readFrameWord
  refine .trans (.ite (.after (raise_keeps _ .slip) ?_) (keeps_of_stores ?_)) (keeps_of_stores rfl) <;> rfl

theorem frameWordEnds_keeps (s : State) (others : Lines) : s.Keeps (s.frameWordEnds others) := by
  unfold State.frameWordEnds
  split
  · exact .refl s
  · exact .ite (.refl s) ((reach_keeps s _).trans (readFrameWord_keeps _ _ _))

theorem takePlace_keeps (s : State) (n : Nat) (w : Lines) : s.Keeps (s.takePlace n w) := by
  have hset (e : MemberEntry) : s.Keeps { s with member := { s.member with members := s.member.members.set n e } } :=
    ⟨fun h => { h with }, fun h => { h with members := List.length_set.trans h.members }, fun h => { h with }⟩
  exact .ite ((hset _).trans (raise_keeps _ .members)) (hset _)

theorem completeWindow_keeps (s : State) (w : AnnounceWindow) : s.Keeps (s.completeWindow w) := by
  unfold State.completeWindow
  refine .ite (.ite (.after (changeState_keeps _ _) ?_) (keeps_of_stores ?_))
    (.ite (.ite (.after (changeState_keeps _ _) ?_) (keeps_of_stores ?_)) (keeps_of_stores ?_)) <;> rfl

theorem nextPlace_keeps (s : State) (w : AnnounceWindow) : s.Keeps (s.nextPlace w) :=
  .ite (keeps_of_stores rfl) (completeWindow_keeps s w)

theorem readBackPlace_keeps (s : State) (driven read : Lines) : s.Keeps (s.readBackPlace driven read) :=
  .ite (.ite (.refl s) (keeps_of_stores rfl)) (changeState_keeps s _)

theorem endPlace_keeps (s : State) (w : AnnounceWindow) (others : Lines) : s.Keeps (s.endPlace w others) := by
  unfold State.endPlace
  extract_lets drives driven read s1 s2
  have hnonce : s.Keeps (if drives then s.drawNonce else s) := .ite (keeps_of_stores rfl) (.refl s)
  have h1 : s.Keeps s1 := (hnonce.trans (drive_keeps _ _)).trans (takePlace_keeps _ _ _)
  have h2 : s.Keeps s2 := .ite (h1.trans (readBackPlace_keeps _ _ _)) h1
  exact h2.trans (nextPlace_keeps _ _)

theorem announcePlaceEnds_keeps (s : State) (others : Lines) : s.Keeps (s.announcePlaceEnds others) := by
  unfold State.announcePlaceEnds
  split
  · exact .refl s
  · exact .ite ((reach_keeps s _).trans (endPlace_keeps _ _ _)) (.refl s)

end Sys2Proof.Machine
end

section
/-! SUPPORT. The claim window, the fetch and the columns keep the capacities, the fixed sizes and the orders. -/

namespace Sys2Proof.Machine

/-! ### The start of the fetch and the close of a window -/

theorem startFetch_keeps (s : State) : s.Keeps s.startFetch := by
  obtain ⟨-, g, rest, hg, h⟩ | ⟨-, h⟩ := startFetch_cases s <;> rw [h]
  · have hrow : (startRow g).slot = g.slot := rfl
    refine ⟨fun h => { h with buffer := ?_ }, fun h => { h with }, fun h => { h with buffer := List.pairwise_singleton .., rows := ?_ }⟩
    · simp [hg]
    · simp [hg, hrow]
  · exact .refl s

theorem windowClosed_keeps (s : State) : s.Keeps s.windowClosed :=
  ⟨fun h => { h with rounds := nofun }, fun h => { h with }, fun h => { h with rounds := nofun }⟩

theorem closeWindow_keeps (s : State) : s.Keeps s.closeWindow :=
  (windowClosed_keeps s).trans (startFetch_keeps _)

/-! ### A round -/

/-- A round recorded, with the window to come as given: the entry of the grant list, and the own grants of the round, one where
the head won it and none otherwise. -/
def State.roundRecorded (s : State) (r : Nat) (word : Lines) (candidates : List Candidate) (won : List OwnGrant)
    (next : Option Nat) : State :=
  { s with claim := { s.claim with
      candidates := candidates
      window := next
      grants := s.claim.grants ++
        [{ slot := r, station := claimStation word, object := claimObject word, cls := claimKey word / 8 }]
      ownGrants := s.claim.ownGrants ++ won } }

theorem roundRecorded_withinCapacity {s : State} {r : Nat} {word : Lines} {candidates : List Candidate} {won : List OwnGrant}
    {next : Option Nat} (hw : s.claim.window = some r) (hc : candidates.length ≤ s.claim.candidates.length)
    (hone : won.length ≤ 1) (hnext : ∀ n ∈ next, n = r + 1 ∧ n < 16) (h : s.WithinCapacity) :
    (s.roundRecorded r word candidates won next).WithinCapacity := by
  obtain ⟨hlength, hr⟩ := h.rounds r hw
  have hown := h.ownGrants
  have hbuffer := h.buffer
  refine { h with candidates := hc.trans h.candidates, rounds := ?_, grants := ?_, ownGrants := ?_, buffer := ?_ }
  · intro n hn
    obtain ⟨rfl, hlt⟩ := hnext n hn
    exact ⟨by simp [State.roundRecorded, hlength], hlt⟩
  all_goals simp only [State.roundRecorded, List.length_append, List.length_singleton]; omega

theorem roundRecorded_orderSound {s : State} {r : Nat} {word : Lines} {candidates : List Candidate} {won : List OwnGrant}
    {next : Option Nat} (hw : s.claim.window = some r) (hnew : s.pairGranted (claimStation word) (claimObject word) = false)
    (hone : won.length ≤ 1) (hslot : ∀ g ∈ won, g.slot = r) (hnext : ∀ n ∈ next, n = r + 1 ∧ n < 16) (h : s.OrderSound) :
    (s.roundRecorded r word candidates won next).OrderSound := by
  obtain ⟨hgrants, hown⟩ := h.rounds r hw
  refine { h with grants := ?_, pairs := ?_, ownGrants := ?_, rounds := ?_, rows := ?_ }
  · exact List.pairwise_append.2 ⟨h.grants, List.pairwise_singleton .., by simpa using hgrants⟩
  · refine List.pairwise_append.2 ⟨h.pairs, List.pairwise_singleton .., ?_⟩
    simpa [State.pairGranted] using hnew
  · refine List.pairwise_append.2 ⟨h.ownGrants, ?_, fun a ha b hb => hslot b hb ▸ hown a ha⟩
    match won, hone with
    | [], _ => exact .nil
    | [g], _ => exact List.pairwise_singleton ..
  · intro n hn
    obtain ⟨rfl, -⟩ := hnext n hn
    refine ⟨fun g hg => ?_, fun g hg => ?_⟩ <;> rcases List.mem_append.1 hg with hg | hg
    · exact (hgrants g hg).trans r.lt_succ_self
    · rw [List.mem_singleton.1 hg]; exact r.lt_succ_self
    · exact (hown g hg).trans r.lt_succ_self
    · rw [hslot g hg]; exact r.lt_succ_self
  · refine h.rows.trans ?_
    simp [State.roundRecorded]

theorem roundRecorded_keeps {s : State} {r : Nat} {word : Lines} {candidates : List Candidate} {won : List OwnGrant}
    {next : Option Nat} (hw : s.claim.window = some r) (hnew : s.pairGranted (claimStation word) (claimObject word) = false)
    (hc : candidates.length ≤ s.claim.candidates.length) (hone : won.length ≤ 1) (hslot : ∀ g ∈ won, g.slot = r)
    (hnext : ∀ n ∈ next, n = r + 1 ∧ n < 16) : s.Keeps (s.roundRecorded r word candidates won next) :=
  ⟨roundRecorded_withinCapacity hw hc hone hnext, fun h => { h with }, roundRecorded_orderSound hw hnew hone hslot hnext⟩

/-- The comparison of a round with the bid leaves the station as it was, sends it to CONFLICT, or gives the head its own grant
in a round that repeats no pair (R73 … R75). -/
theorem compareBid_cases (s : State) (r : Nat) (word : Lines) (stayed repeated : Bool) :
    s.compareBid r word stayed repeated = s ∨ s.compareBid r word stayed repeated = s.changeState .conflict ∨
      repeated = false ∧ ∃ c, s.compareBid r word stayed repeated = s.grantHead r c := by
  unfold State.compareBid
  split
  · exact .inl rfl
  · rename_i c hc
    split
    · split
      · rename_i h
        simp only [Bool.and_eq_true, Bool.not_eq_true'] at h
        exact .inr (.inr ⟨h.2, c, rfl⟩)
      · exact .inl rfl
    · split
      · exact .inr (.inl rfl)
      · exact .inl rfl

/-- A round that repeats no pair is recorded, whatever the comparison of the bid gave. -/
theorem compared_recorded_keeps {s : State} {r : Nat} {word : Lines} {stayed : Bool} {next : Option Nat}
    (hw : s.claim.window = some r) (hnew : s.pairGranted (claimStation word) (claimObject word) = false)
    (hnext : ∀ n ∈ next, n = r + 1 ∧ n < 16) :
    let s2 := (s.compareBid r word stayed false).recordGrant r word
    s.Keeps { s2 with claim := { s2.claim with window := next } } := by
  have hsame := fun (t : State) (ht : t.claim = s.claim) => roundRecorded_keeps (s := t) (r := r) (word := word)
    (candidates := t.claim.candidates) (won := []) (next := next) (ht ▸ hw) (by rw [State.pairGranted, ht]; exact hnew) le_rfl
    (Nat.zero_le 1) nofun hnext
  obtain h | h | ⟨-, c, h⟩ := compareBid_cases s r word stayed false <;> rw [h]
  · refine (hsame s rfl).trans (keeps_of_stores ?_)
    simp [State.roundRecorded, State.recordGrant, State.stores]
  · refine ((changeState_keeps s .conflict).trans (hsame _ ?_)).trans (keeps_of_stores ?_)
    · obtain ⟨-, -, -, -, hclaim, -⟩ := changeState_frame s .conflict
      exact hclaim
    · simp [State.roundRecorded, State.recordGrant, State.stores]
  · exact roundRecorded_keeps (candidates := s.claim.candidates.tail) (won := [{ slot := r, copy := c }]) hw hnew (by simp) le_rfl
      (by simp) hnext

/-- A round that repeats a pair closes the window unrecorded (R73). -/
theorem drivenRound_repeated {s : State} {r : Nat} {word : Lines} {stayed : Bool}
    (h : s.pairGranted (claimStation word) (claimObject word) = true) :
    s.drivenRound r word stayed = (s.compareBid r word stayed true).closeWindow := by
  simp [State.drivenRound, h]

/-- Any other round is recorded, and closes the window where it is the last (R72, R76). -/
theorem drivenRound_new {s : State} {r : Nat} {word : Lines} {stayed : Bool}
    (h : s.pairGranted (claimStation word) (claimObject word) = false) :
    let s2 := (s.compareBid r word stayed false).recordGrant r word
    s.drivenRound r word stayed =
      if slotCount ≤ r + 1 then s2.closeWindow else { s2 with claim := { s2.claim with window := some (r + 1) } } := by
  simp [State.drivenRound, h]

theorem drivenRound_keeps {s : State} {r : Nat} (hw : s.claim.window = some r) (word : Lines) (stayed : Bool) :
    s.Keeps (s.drivenRound r word stayed) := by
  cases hrep : s.pairGranted (claimStation word) (claimObject word) with
  | true =>
    rw [drivenRound_repeated hrep]
    refine .trans ?_ (closeWindow_keeps _)
    obtain h | h | ⟨h, -⟩ := compareBid_cases s r word stayed true
    · rw [h]; exact .refl s
    · rw [h]; exact changeState_keeps s _
    · cases h
  | false =>
    rw [drivenRound_new hrep]
    split
    · exact (compared_recorded_keeps (next := none) hw hrep nofun).trans (closeWindow_keeps _)
    · rename_i hlast
      exact compared_recorded_keeps hw hrep (by rintro _ ⟨⟩; exact ⟨rfl, Nat.lt_of_not_le hlast⟩)

theorem reach_claim (s : State) (p : Nat) : (s.reach p).claim = s.claim := by
  obtain ⟨-, -, -, -, -, -, hclaim, -⟩ := reach_frame s p
  exact hclaim

theorem claimRoundEnds_keeps (s : State) (bids : List Lines) (held : Carried) : s.Keeps (s.claimRoundEnds bids held) := by
  unfold State.claimRoundEnds
  split
  · exact .refl s
  · rename_i r hw
    refine (reach_keeps s (roundEnd r)).trans ?_
    have hw' : (s.reach (roundEnd r)).claim.window = some r := by rw [reach_claim, hw]
    exact .ite ((drive_keeps _ _).trans (closeWindow_keeps _))
      ((drive_keeps _ _).trans (drivenRound_keeps (s := (s.reach _).drive _) hw' _ _))

/-! ### The fetch -/

/-- The row in progress takes a pixel, with its slot. -/
theorem lastRow_keeps {s : State} {rows : List Row} {r r' : Row} (hb : s.lines.buffer = rows ++ [r]) (hs : r'.slot = r.slot) :
    s.Keeps { s with lines := { s.lines with buffer := rows ++ [r'] } } := by
  have hslots : (rows ++ [r']).map Row.slot = s.lines.buffer.map Row.slot := by simp [hb, hs]
  refine ⟨fun h => { h with buffer := ?_ }, fun h => { h with }, fun h => { h with buffer := ?_, rows := ?_ }⟩
  · have := h.buffer
    simpa [hb] using this
  · have := List.pairwise_map.2 h.buffer
    rw [← hslots] at this
    exact List.pairwise_map.1 this
  · exact hslots ▸ h.rows

/-- The next row is that of the next own grant. -/
theorem nextRow_keeps (s : State) : s.Keeps s.nextRow := by
  unfold State.nextRow
  split
  · rename_i g hg
    obtain ⟨hlt, hget⟩ := List.getElem?_eq_some_iff.1 hg
    refine ⟨fun h => { h with buffer := ?_ }, fun h => { h with }, fun h => ?_⟩
    · simpa using hlt
    · have hrows : (s.lines.buffer ++ [startRow g]).map Row.slot <+: s.claim.ownGrants.map OwnGrant.slot := by
        have hslots : s.lines.buffer.map Row.slot = (s.claim.ownGrants.map OwnGrant.slot).take s.lines.buffer.length := by
          simpa using List.prefix_iff_eq_take.1 h.rows
        have hnext : (s.claim.ownGrants.map OwnGrant.slot)[s.lines.buffer.length]?.toList = [(startRow g).slot] := by
          rw [List.getElem?_map, hg]; rfl
        rw [List.map_append, hslots, List.map_singleton, ← hnext, ← List.take_add_one]
        exact List.take_prefix ..
      refine { h with buffer := ?_, rows := hrows }
      exact List.pairwise_map.1 ((List.pairwise_map.2 h.ownGrants).sublist hrows.sublist)
  · exact keeps_of_stores rfl

theorem add_slot (colour : Option Byte) (v : Byte) (r : Row) : (r.add colour v).slot = r.slot := by
  unfold Row.add; simp only; split <;> rfl

theorem fetchServed_keeps (s : State) : s.Keeps s.fetchServed := by
  unfold State.fetchServed
  split
  · rename_i g r x y hg hr hp
    obtain ⟨rows, hb⟩ := List.getLast?_eq_some_iff.1 hr
    have hrow := lastRow_keeps hb (add_slot (s.tintColour g.copy s.link.lineCounter) (s.pixel x y) r)
    rw [hb, List.dropLast_concat]
    refine .trans (.ite (hrow.trans (nextRow_keeps _)) hrow) (keeps_of_stores rfl)
  · exact .refl s

/-! ### A column -/

theorem samePair_iff (a b : CollisionRecord) :
    samePair a b = true ↔ a.frame = b.frame ∧ a.own = b.own ∧ a.station = b.station ∧ a.object = b.object := by
  simp [samePair, and_assoc]

/-- Marking the newest record changes no pair key, and no record's place. -/
theorem markMore_pairs (log : List CollisionRecord) :
    (markMore log).map (fun r => (r.frame, r.own, r.station, r.object)) = log.map fun r => (r.frame, r.own, r.station, r.object) := by
  unfold markMore
  split
  · rfl
  · rename_i r hr
    obtain ⟨older, rfl⟩ := List.getLast?_eq_some_iff.1 hr
    simp

theorem markMore_keeps (s : State) : s.Keeps { s with collisions := markMore s.collisions } := by
  have hlength : (markMore s.collisions).length = s.collisions.length := by
    simpa using congrArg List.length (markMore_pairs s.collisions)
  refine ⟨fun h => { h with collisions := hlength.trans_le h.collisions }, fun h => { h with }, fun h => { h with log := ?_ }⟩
  have hkeys : (s.collisions.map fun r => (r.frame, r.own, r.station, r.object)).Pairwise (· ≠ ·) := by
    rw [List.pairwise_map]
    simpa using h.log
  rw [← markMore_pairs, List.pairwise_map] at hkeys
  simpa using hkeys

theorem offerCollision_keeps (s : State) (c : CollisionRecord) : s.Keeps (s.offerCollision c) := by
  unfold State.offerCollision
  split
  · exact .refl s
  · rename_i hnew
    split
    · exact (markMore_keeps s).trans (raise_keeps _ .logFull)
    · rename_i hroom
      refine .trans ?_ (raise_keeps _ .collision)
      refine ⟨fun h => { h with collisions := ?_ }, fun h => { h with }, fun h => { h with log := ?_ }⟩
      · rw [List.length_append]
        exact Nat.lt_of_not_le hroom
      · refine List.pairwise_append.2 ⟨h.log, List.pairwise_singleton .., fun a ha b hb => ?_⟩
        obtain rfl := List.mem_singleton.1 hb
        rintro ⟨hframe, hown, hstation, hobject⟩
        refine hnew (List.any_eq_true.2 ⟨a, ha, (samePair_iff _ _).2 ?_⟩)
        exact ⟨hframe.symm, hown.symm, hstation.symm, hobject.symm⟩

theorem offerPick_keeps (s : State) (r : PickRecord) : s.Keeps (s.offerPick r) := by
  unfold State.offerPick
  split
  · rename_i hroom
    refine .trans ?_ (raise_keeps _ .pick)
    refine ⟨fun h => { h with picks := ?_ }, fun h => { h with }, fun h => { h with }⟩
    rw [List.length_append]
    exact hroom
  · exact raise_keeps ..

theorem resolvePoints_keeps (s : State) (rep : ColumnReport) : s.Keeps (s.resolvePoints rep) := by
  unfold State.resolvePoints
  refine .trans ?_ (foldl_keeps (fun s _ => offerPick_keeps s _) _ _)
  refine ⟨fun h => { h with points := ?_ }, fun h => { h with }, fun h => { h with }⟩
  exact (List.length_filter_le _ _).trans h.points

theorem resolveTrigger_keeps (s : State) (rep : ColumnReport) : s.Keeps (s.resolveTrigger rep) := by
  unfold State.resolveTrigger
  exact .ite (.after (offerPick_keeps _ _) rfl) (keeps_of_stores rfl)

theorem handOn_keeps (s : State) (rep : ColumnReport) : s.Keeps (s.handOn rep) := by
  unfold State.handOn State.examinePicks State.examineCollisions
  refine .trans (.trans ?_ (resolvePoints_keeps _ _)) (resolveTrigger_keeps _ _)
  exact .after (foldl_keeps offerCollision_keeps _ _) rfl

theorem columnResolved_keeps (s : State) (rivals : List Lines) (held : Carried) (join : Lines) :
    s.Keeps (s.columnResolved rivals held join) := by
  unfold State.columnResolved
  split
  · exact .refl s
  · exact (reach_keeps s _).trans (.after (handOn_keeps _ _) rfl)

theorem pickEdge_keeps (s : State) : s.Keeps s.pickEdge := by
  have hwaits : s.Keeps (if s.picks.trigger then s else { s with picks := { s.picks with edgeWaiting := true } }) :=
    .ite (.refl s) (keeps_of_stores rfl)
  unfold State.pickEdge
  split
  · unfold State.edgeInColumn
    split
    · exact .ite (.ite (.refl s) (.after (offerPick_keeps _ _) rfl)) hwaits
    · exact hwaits
  · exact keeps_of_stores rfl

end Sys2Proof.Machine
end

section
/-! SUPPORT. The Drawing Engine and the commands keep the capacities, the fixed sizes and the orders; so does every happening, and
every step. -/

namespace Sys2Proof.Machine

/-! ### The Drawing Engine -/

/-- The engine and the Response Queue may change together, within the response budget and the Draw Queue's capacity. -/
theorem answering_keeps (s : State) (responses : List Response) (engine : Engine)
    (hbudget : s.WithinCapacity →
      responses.length + (engineHeld engine.mode + engine.queue.length) + (if s.port.transfer.isSome then 1 else 0) ≤ 8)
    (hqueue : s.WithinCapacity → engine.queue.length ≤ 4)
    (hidle : s.WithinCapacity → engine.mode = .idle → engine.queue = []) :
    s.Keeps { s with port := { s.port with responses := responses }, engine := engine } :=
  ⟨fun h => { h with budget := hbudget h, drawQueue := hqueue h, idleEmpty := hidle h }, fun h => { h with }, fun h => { h with }⟩

/-- The engine's choice of its next command changes the Response Queue and the engine only. -/
theorem engineLoad_eq (q : List DrawEntry) (s : State) :
    engineLoad q s = { s with
      port := { s.port with responses := (engineLoad q s).port.responses }, engine := (engineLoad q s).engine } := by
  induction q generalizing s with
  | nil => rfl
  | cons e rest ih =>
    simp only [engineLoad]
    split
    · rfl
    · split
      · exact ih _
      · rfl

/-- A command that is taken leaves the Draw Queue, and the engine goes to IDLE only from an empty one (R143). -/
theorem engineLoad_engine (q : List DrawEntry) (s : State) :
    (engineLoad q s).engine.queue.length ≤ q.length - 1 ∧
      ((engineLoad q s).engine.mode = .idle → (engineLoad q s).engine.queue = []) := by
  induction q generalizing s with
  | nil => simp [engineLoad]
  | cons e rest ih =>
    simp only [engineLoad]
    split
    · simp
    · split
      · obtain ⟨hlength, hidle⟩ := ih (s.answerDraw e .ok (endState e.cmd (allProcessed e.cmd)))
        exact ⟨by simp; omega, hidle⟩
      · simp

/-- The engine may take its next command from a queue, with answers given before it, within the response budget. -/
theorem engineLoad_keeps (s : State) (responses : List Response) (q : List DrawEntry)
    (hbudget : s.WithinCapacity → q.length + responses.length + (if s.port.transfer.isSome then 1 else 0) ≤ 8)
    (hqueue : s.WithinCapacity → q.length ≤ 5) :
    s.Keeps (engineLoad q { s with port := { s.port with responses := responses } }) := by
  have hcount := engineLoad_count q { s with port := { s.port with responses := responses } }
  obtain ⟨hlength, hidle⟩ := engineLoad_engine q { s with port := { s.port with responses := responses } }
  rw [engineLoad_eq]
  simp only [State.unanswered] at hcount
  refine answering_keeps s _ _ (fun h => ?_) (fun h => ?_) fun _ => hidle
  · have := hbudget h
    dsimp only at hcount ⊢
    omega
  · have := hqueue h
    omega

/-- The response budget, with the engine's mode written out (R161). -/
theorem State.WithinCapacity.budget_of {s : State} {mode : EngineMode} (h : s.WithinCapacity) (hm : s.engine.mode = mode) :
    s.port.responses.length + (engineHeld mode + s.engine.queue.length) + (if s.port.transfer.isSome then 1 else 0) ≤ 8 :=
  hm ▸ h.budget

/-- The command at the engine is answered, those given behind it too, and the next is taken. -/
theorem ended_keeps (s : State) (answers : List Response) (h : answers.length = engineHeld s.engine.mode) :
    s.Keeps (engineLoad s.engine.queue { s with port := { s.port with responses := s.port.responses ++ answers } }) := by
  refine engineLoad_keeps s _ _ (fun hs => ?_) fun hs => hs.drawQueue.trans (by decide)
  have := hs.budget_of rfl
  rw [List.length_append]
  omega

/-- The command at the engine goes on in a mode that holds as many commands. -/
theorem engineMode_keeps (s : State) (mode : EngineMode) (h : engineHeld mode = engineHeld s.engine.mode) (hn : mode ≠ .idle) :
    s.Keeps { s with engine := { s.engine with mode := mode } } :=
  answering_keeps s s.port.responses _ (fun hs => h ▸ hs.budget_of rfl) (fun hs => hs.drawQueue) fun _ h => absurd h hn

theorem engineStart_keeps (s : State) : s.Keeps s.engineStart := by
  unfold State.engineStart
  split
  · rename_i e he
    exact .ite (ended_keeps s [_] (by rw [he]; rfl)) (engineMode_keeps s _ (by rw [he]; rfl) nofun)
  · exact .refl s
  · exact .refl s
  · exact .refl s

theorem engineAdvances_keeps (s : State) (old : Byte) : s.Keeps (s.engineAdvances old) := by
  unfold State.engineAdvances
  split
  · exact .refl s
  · exact .refl s
  · rename_i e p he
    exact .ite (ended_keeps s [_] (by rw [he]; rfl)) (engineMode_keeps s _ (by rw [he]; rfl) nofun)
  · rename_i e p aborted he
    simp only [abortAll_eq, State.answerDraw, State.respond, List.append_assoc]
    exact .ite (ended_keeps s _ (by simp [he, engineHeld]; omega)) (engineMode_keeps s _ (by rw [he]; rfl) nofun)

theorem engineServed_keeps (s : State) : s.Keeps s.engineServed := by
  unfold State.engineServed
  split
  · exact .refl s
  · exact ((engineWrites_keeps s).trans (served_keeps _)).trans (engineAdvances_keeps _ _)

/-- The engine goes to IDLE with the commands it held and its queue answered. -/
theorem emptied_keeps (s : State) (answers : List Response) (h : answers.length = engineHeld s.engine.mode + s.engine.queue.length) :
    s.Keeps { s with
      port := { s.port with responses := s.port.responses ++ answers }, engine := { mode := .idle, queue := [] } } := by
  refine answering_keeps s _ _ (fun hs => ?_) (fun _ => Nat.zero_le _) fun _ _ => rfl
  have := hs.budget_of rfl
  simp only [List.length_append, engineHeld, List.length_nil]
  omega

/-- The engine stops, and holds the commands of its queue with those it held. -/
theorem stopping_keeps (s : State) (e : DrawEntry) (p : Progress) (aborted : List DrawEntry)
    (h : 1 + aborted.length = engineHeld s.engine.mode + s.engine.queue.length) :
    s.Keeps { s with engine := { mode := .stopping e p aborted, queue := [] } } := by
  refine answering_keeps s s.port.responses _ (fun hs => ?_) (fun _ => Nat.zero_le _) fun _ => nofun
  have := hs.budget_of rfl
  simp only [engineHeld, List.length_nil]
  omega

theorem engineAborted_keeps (s : State) : s.Keeps s.engineAborted := by
  unfold State.engineAborted
  simp only [abortAll_eq, State.answerDraw, State.respond, List.append_assoc]
  split
  · rename_i he
    exact emptied_keeps s _ (by simp [he, engineHeld])
  · rename_i e he
    exact emptied_keeps s _ (by simp [he, engineHeld]; omega)
  · rename_i e p he
    exact .ite (stopping_keeps s e p _ (by rw [he]; rfl)) (emptied_keeps s _ (by simp [he, engineHeld]; omega))
  · rename_i e p aborted he
    exact stopping_keeps s e p _ (by simp [he, engineHeld]; omega)

theorem drawAborted_keeps (s : State) (inService : Option Client) : s.Keeps (s.drawAborted inService) := by
  unfold State.drawAborted
  exact .after (engineAborted_keeps _) rfl

theorem takeFrameMark_keeps (s : State) : s.Keeps s.takeFrameMark := by
  unfold State.takeFrameMark
  refine .trans ?_ (openActiveLine_keeps _ 0)
  refine .trans (.trans (.trans ?_ (applyUpdates_keeps _)) (turnOver_keeps _)) (engineStart_keeps _)
  exact .trans ((restartClocks_keeps s).trans (frameCount_keeps _)) (frameMembership_keeps _ _)

theorem takeMark_keeps (s : State) (seen : MarkKind) : s.Keeps (s.takeMark seen) := by
  have hreach : s.Keeps (s.leadingEdge.reach decisionPoint) := (leadingEdge_keeps s).trans (reach_keeps _ _)
  unfold State.takeMark
  simp only
  split
  · exact hreach.trans (takeLineMark_keeps _)
  · exact hreach.trans (takeFrameMark_keeps _)

/-! ### The port transfers -/

/-- A transfer's access leaves one more for it, or its response, in the room the transfer holds (R136, R137, R161). -/
theorem transfer_keeps {s : State} (h : s.port.transfer.isSome) (tag code : Byte) (payload : List Byte) (t : Transfer) :
    s.Keeps (s.endTransfer tag code payload) ∧ s.Keeps { s with port := { s.port with transfer := some t } } := by
  have hb : s.WithinCapacity → s.port.responses.length + s.unanswered + 1 ≤ 8 := fun hs => by
    simpa only [State.reserved, h, if_true] using hs.budget
  refine ⟨⟨fun hs => { hs with budget := ?_ }, fun h => { h with }, fun h => { h with }⟩,
    ⟨fun hs => { hs with budget := hb hs }, fun h => { h with }, fun h => { h with }⟩⟩
  have := hb hs
  simp only [State.unanswered] at this
  simp only [State.endTransfer, State.reserved, State.unanswered, State.respond, List.length_append, List.length_singleton,
    Option.isSome_none, Bool.false_eq_true, if_false]
  omega

theorem portWrites_port (s : State) : s.portWrites.port = s.port := by
  obtain h | ⟨_, _, _, _, _, -, h⟩ := portWrites_cases s <;> rw [h]
  exact State.setPixel_port ..

theorem portServed_keeps (s : State) : s.Keeps s.portServed := by
  unfold State.portServed
  split
  · exact .refl s
  · rename_i tag x y pixels next ht
    have hsome : s.portWrites.served.port.transfer.isSome := by rw [State.served_port, portWrites_port, ht]; rfl
    obtain ⟨hend, hnext⟩ := transfer_keeps hsome tag 0x20#8 [] (.write tag x y pixels (next + 1))
    exact .trans ((portWrites_keeps s).trans (served_keeps _)) (.ite hend hnext)
  · rename_i tag x y count got ht
    have hsome : s.served.port.transfer.isSome := by rw [State.served_port, ht]; rfl
    obtain ⟨hend, hnext⟩ := transfer_keeps hsome tag 0x21#8 (got ++ [s.pixel (x + got.length) y])
      (.read tag x y count (got ++ [s.pixel (x + got.length) y]))
    exact .trans (served_keeps s) (.ite hend hnext)

/-! ### The commands -/

/-- A state in which a command has been taken and not been answered: the three conditions of R161 left it room. -/
structure State.HasRoom (s : State) (e : Entry) : Prop where
  budget : s.reserved < 8
  free : s.port.transfer = none
  queue : e.isDraw = true → s.engine.queue.length < 4

/-- A command taken leaves the Command Queue, with room for what it brings. -/
theorem taken_hasRoom {s : State} {e : Entry} {rest : List Entry} (h : s.Takes e rest) : (s.without rest).HasRoom e := by
  have hfree : (s.without rest).port.transfer = none := h.free
  refine ⟨?_, hfree, h.room⟩
  simp only [State.reserved, hfree, Option.isSome_none, Bool.false_eq_true, if_false]
  exact h.budget

/-- What a row keeps that takes the head of the Command Queue. -/
theorem taking_keeps {s t : State} {row : Entry → Bool} {act : Entry → State → State} (h : s.taking row act = .next t)
    (hact : ∀ (u : State) (e : Entry), u.HasRoom e → row e = true → u.Keeps (act e u)) : s.Keeps t := by
  obtain rfl | ⟨e, rest, htakes, hrow, rfl⟩ := taking_cases h
  · exact .refl _
  · refine .trans ?_ (hact _ e (taken_hasRoom htakes) hrow)
    exact sentOut_keeps s rest s.port.responses s.port.pdo (by simp [htakes.head]) le_rfl

theorem answer_keeps {s : State} {e : Entry} {status : Status} {payload : List Byte} (hs : s.reserved < 8) :
    s.Keeps (s.answer e status payload) := by
  refine answering_keeps s _ s.engine (fun _ => ?_) (fun h => h.drawQueue) fun h => h.idleEmpty
  simp only [State.reserved, State.unanswered] at hs
  simp only [List.length_append, List.length_singleton]
  omega

/-- A command that does its work and is answered, where its work takes no room. -/
theorem State.Keeps.answered {s t : State} {e : Entry} {status : Status} {payload : List Byte} (h : s.Keeps t)
    (hs : s.reserved < 8) (ht : t.reserved = s.reserved) : s.Keeps (t.answer e status payload) :=
  h.trans (answer_keeps (ht.trans_lt hs))

theorem setObject_keeps (s : State) (n : Nat) (r : ObjectRecord) : s.Keeps (s.setObject n r) :=
  ⟨fun h => { h with }, fun h => { h with objects := List.length_set.trans h.objects }, fun h => { h with }⟩

theorem queueUpdate_keeps {s : State} (hs : s.reserved < 8) (e : Entry) (u : PendingEntry) : s.Keeps (s.queueUpdate e u) := by
  unfold State.queueUpdate
  split
  · rename_i hroom
    refine .answered ⟨fun h => { h with updates := ?_ }, fun h => { h with }, fun h => { h with }⟩ hs rfl
    rw [List.length_append]
    exact hroom
  · exact answer_keeps hs

theorem writeNow_keeps {s : State} (hs : s.reserved < 8) (e : Entry) : s.Keeps (s.writeNow e) := by
  unfold State.writeNow
  split
  · exact answer_keeps hs
  · exact (setObject_keeps s _ _).answered hs rfl

theorem writeAtFrame_keeps {s : State} (hs : s.reserved < 8) (e : Entry) : s.Keeps (s.writeAtFrame e) := by
  unfold State.writeAtFrame
  split
  · exact answer_keeps hs
  · exact queueUpdate_keeps hs ..

theorem moveNow_keeps {s : State} (hs : s.reserved < 8) (e : Entry) : s.Keeps (s.moveNow e) := by
  unfold State.moveNow
  split
  · exact answer_keeps hs
  · exact .ite (answer_keeps hs) ((setObject_keeps s _ _).answered hs rfl)

theorem moveAtFrame_keeps {s : State} (hs : s.reserved < 8) (e : Entry) : s.Keeps (s.moveAtFrame e) := by
  unfold State.moveAtFrame
  split
  · exact answer_keeps hs
  · exact queueUpdate_keeps hs ..

theorem flushPending_keeps {s : State} (hs : s.reserved < 8) (e : Entry) : s.Keeps (s.flushPending e) := by
  unfold State.flushPending
  exact .answered ⟨fun h => { h with updates := Nat.zero_le _ }, fun h => { h with }, fun h => { h with }⟩ hs rfl

theorem writeTint_keeps {s : State} (hs : s.reserved < 8) (e : Entry) : s.Keeps (s.writeTint e) := by
  unfold State.writeTint
  simp only
  split
  · rename_i hfits
    refine .answered ⟨fun h => { h with }, fun h => { h with tints := ?_ }, fun h => { h with }⟩ hs rfl
    exact (setRun_length _ _ _ (h.tints ▸ hfits)).trans h.tints
  · exact answer_keeps hs

theorem writePalette_keeps {s : State} (hs : s.reserved < 8) (e : Entry) : s.Keeps (s.writePalette e) := by
  unfold State.writePalette
  simp only
  split
  · rename_i hfits
    refine .answered ⟨fun h => { h with }, fun h => { h with palette := ?_ }, fun h => { h with }⟩ hs rfl
    exact (setRun_length _ _ _ (h.palette ▸ hfits.1)).trans h.palette
  · exact answer_keeps hs

theorem beginTransfer_keeps {s : State} {e : Entry} (h : s.HasRoom e) (t : Transfer) : s.Keeps (s.beginTransfer t) := by
  refine ⟨fun hs => { hs with budget := ?_ }, fun hs => { hs with }, fun hs => { hs with }⟩
  have hb := h.budget
  simpa [State.reserved, State.unanswered, State.beginTransfer, State.portPresents, h.free] using hb

theorem surfaceWrite_keeps {s : State} {e : Entry} (h : s.HasRoom e) : s.Keeps (s.surfaceWrite e) :=
  .ite (beginTransfer_keeps h _) (answer_keeps h.budget)

theorem surfaceRead_keeps {s : State} {e : Entry} (h : s.HasRoom e) : s.Keeps (s.surfaceRead e) :=
  .ite (beginTransfer_keeps h _) (answer_keeps h.budget)

theorem acceptDraw_keeps {s : State} (hs : s.reserved < 8) (hq : s.engine.queue.length < 4) (d : DrawEntry) :
    s.Keeps (s.acceptDraw d) := by
  have hlength : (s.engine.queue ++ [d]).length = s.engine.queue.length + 1 := List.length_append
  simp only [State.reserved, State.unanswered] at hs
  have hwaits : s.engine.mode ≠ .idle → s.Keeps { s with engine := { s.engine with queue := s.engine.queue ++ [d] } } :=
    fun hbusy => answering_keeps s s.port.responses _ (fun _ => by dsimp only; omega) (fun _ => by dsimp only; omega)
      fun _ h => absurd h hbusy
  unfold State.acceptDraw
  split
  · exact engineLoad_keeps s s.port.responses _ (fun _ => by omega) fun _ => by omega
  all_goals
    rename_i hm
    exact hwaits (by rw [hm]; nofun)

/-- The rows of the draw commands take draw commands only. -/
theorem isDraw_of_runs {c : Command} {e : Entry} (hc : isDrawCommand c = true) (h : e.runs c = true) : e.isDraw = true := by
  simp only [Entry.runs, Bool.and_eq_true, beq_iff_eq] at h
  simp [Entry.isDraw, h.1.2, hc]

theorem takeDraw_keeps {s : State} {c : Command} {e : Entry} (hc : isDrawCommand c = true) (h : s.HasRoom e)
    (hr : e.runs c = true) : s.Keeps (s.takeDraw c e) := by
  unfold State.takeDraw
  split
  · exact answer_keeps h.budget
  · exact acceptDraw_keeps h.budget (h.queue (isDraw_of_runs hc hr)) _

theorem pickAt_keeps {s : State} (hs : s.reserved < 8) (e : Entry) : s.Keeps (s.pickAt e) := by
  unfold State.pickAt
  simp only
  refine .ite (answer_keeps hs) ?_
  split
  · exact answer_keeps hs
  · rename_i hroom
    refine .answered ⟨fun h => { h with points := ?_ }, fun h => { h with }, fun h => { h with }⟩ hs rfl
    rw [List.length_append]
    exact Nat.lt_of_not_le hroom

theorem readPicks_keeps {s : State} (hs : s.reserved < 8) (e : Entry) : s.Keeps (s.readPicks e) := by
  unfold State.readPicks
  split
  · exact answer_keeps hs
  · rename_i r rest hq
    refine .answered ⟨fun h => { h with picks := ?_ }, fun h => { h with }, fun h => { h with }⟩ hs rfl
    have := h.picks
    rw [hq] at this
    exact (Nat.le_succ _).trans this

theorem readCollisions_keeps {s : State} (hs : s.reserved < 8) (e : Entry) : s.Keeps (s.readCollisions e) := by
  unfold State.readCollisions
  simp only
  split
  · refine .answered ⟨fun h => { h with collisions := ?_ }, fun h => { h with }, fun h => { h with log := ?_ }⟩ hs rfl
    · exact (List.drop_sublist _ _).length_le.trans h.collisions
    · exact h.log.sublist (List.drop_sublist _ _)
  · exact answer_keeps hs

theorem readEvents_keeps {s : State} (hs : s.reserved < 8) (e : Entry) : s.Keeps (s.readEvents e) := by
  have hnone : ∀ n ∈ Events.none.counts, n ≤ 255 := by decide
  unfold State.readEvents
  exact .answered ⟨fun h => { h with }, fun h => { h with events := hnone }, fun h => { h with }⟩ hs rfl

theorem changeState_reserved (s : State) (new : OwnState) : (s.changeState new).reserved = s.reserved := by
  unfold State.changeState
  split <;> rfl

theorem detach_keeps {s : State} (hs : s.reserved < 8) (e : Entry) : s.Keeps (s.detach e) := by
  have hleave := (changeState_keeps s .detached).answered hs (changeState_reserved s _) (e := e) (status := .ok) (payload := [])
  unfold State.detach
  split
  · exact .answered (keeps_of_stores rfl) hs rfl
  · exact answer_keeps hs
  all_goals exact hleave

theorem cutWindow_reserved (s : State) : s.cutWindow.reserved = s.reserved := by
  unfold State.cutWindow
  split <;> rfl

theorem endLine_reserved (s : State) : s.endLine.reserved = s.reserved := cutWindow_reserved s

theorem leadingEdge_reserved (s : State) : s.leadingEdge.reserved = s.reserved := by
  unfold State.leadingEdge
  split
  · rfl
  · refine (endLine_reserved s.releaseMark).trans ?_
    unfold State.releaseMark State.reach
    split
    · rfl
    · simp only
      split <;> rfl

theorem loseSync_reserved (s : State) : s.loseSync.reserved = s.reserved := by
  unfold State.loseSync
  split
  · exact endLine_reserved s
  · rfl

theorem found_reserved (s : State) : s.found.reserved = s.reserved :=
  (leadingEdge_reserved (s.changeState .founding)).trans (changeState_reserved s _)

theorem atSilenceLimit_reserved (s : State) : s.atSilenceLimit.reserved = s.reserved := by
  unfold State.atSilenceLimit
  split
  · split
    · exact (found_reserved _).trans (loseSync_reserved s)
    · exact loseSync_reserved s
  · rfl

theorem rejoin_keeps {s : State} (hs : s.reserved < 8) (e : Entry) : s.Keeps (s.rejoin e) := by
  have hlisten := ((changeState_keeps s .listen).trans (atSilenceLimit_keeps _)).answered hs
    ((atSilenceLimit_reserved _).trans (changeState_reserved s _)) (e := e) (status := .ok) (payload := [])
  have hwrong := answer_keeps hs (e := e) (status := .wrongState) (payload := [])
  unfold State.rejoin
  split
  · exact hlisten
  · exact hlisten
  · exact hlisten
  all_goals exact hwrong

/-! ### Every happening, and every step -/

theorem happening_keeps {s t : State} {enabled : Bool} {f : State → State} (h : s.happening enabled f = .next t)
    (hf : s.Keeps (f s)) : s.Keeps t := by
  obtain rfl | ⟨-, -, rfl⟩ := happening_cases h
  · exact .refl _
  · exact hf

theorem accessing_keeps {s t : State} {enabled : Bool} {fault : Option Fault} {f : State → State}
    (h : s.accessing enabled fault f = .next t) (hf : s.Keeps (f s)) : s.Keeps t := by
  obtain rfl | ⟨-, -, -, rfl⟩ := accessing_cases h
  · exact .refl _
  · exact hf

theorem receiveFrame_keeps (s : State) (r : Received) (inService : Option Client) : s.Keeps (s.receiveFrame r inService) := by
  cases r with
  | abort => exact drawAborted_keeps s inService
  | restart => exact restarted_keeps s inService
  | entry e => exact .after (offerEntry_keeps _ _) rfl

/-- A row that answers the head and does no more. -/
theorem answers_keep {s t : State} {row : Entry → Bool} {status : Status} {payload : Entry → State → List Byte}
    (h : s.taking row (fun e u => u.answer e status (payload e u)) = .next t) : s.Keeps t :=
  taking_keeps h fun _ _ hu _ => answer_keeps hu.budget

theorem exec_keeps {c : Instr} {s t : State} (h : exec c s = .next t) : s.Keeps t := by
  cases c with
  | resetPinAsserted => cases h; exact pinReset_keeps ..
  | resetPinReleased => cases h; exact pinReset_keeps ..
  | commandFrameReceived bytes inService =>
    exact accessing_keeps (f := fun s => (s.send _).receiveFrame (receive bytes) inService) h
      (.after (receiveFrame_keeps _ _ _) rfl)
  | ignoredTransaction kind count => exact happening_keeps (f := fun s => s.send _) h (keeps_of_stores rfl)
  | readTransaction count => exact happening_keeps (f := fun s => s.readOut count) h (readOut_keeps _ _)
  | badFrameEntryTaken => exact answers_keep (payload := fun _ _ => []) h
  | unknownCodeTaken => exact answers_keep (payload := fun _ _ => []) h
  | badLengthEntryTaken => exact answers_keep (payload := fun _ _ => []) h
  | objectWriteNow => exact taking_keeps h fun _ e hu _ => writeNow_keeps hu.budget e
  | objectWriteAtFrame => exact taking_keeps h fun _ e hu _ => writeAtFrame_keeps hu.budget e
  | objectMoveNow => exact taking_keeps h fun _ e hu _ => moveNow_keeps hu.budget e
  | objectMoveAtFrame => exact taking_keeps h fun _ e hu _ => moveAtFrame_keeps hu.budget e
  | objectRead => exact taking_keeps h fun _ e hu _ => .ite (answer_keeps hu.budget) (answer_keeps hu.budget)
  | flushPending => exact taking_keeps h fun _ e hu _ => flushPending_keeps hu.budget e
  | tintWrite => exact taking_keeps h fun _ e hu _ => writeTint_keeps hu.budget e
  | surfaceWrite => exact taking_keeps h fun _ _ hu _ => surfaceWrite_keeps hu
  | portWriteAccessServed => exact accessing_keeps h (portServed_keeps s)
  | surfaceRead => exact taking_keeps h fun _ _ hu _ => surfaceRead_keeps hu
  | portReadAccessServed => exact accessing_keeps h (portServed_keeps s)
  | fill => exact taking_keeps h fun _ _ hu hr => takeDraw_keeps rfl hu hr
  | copy => exact taking_keeps h fun _ _ hu hr => takeDraw_keeps rfl hu hr
  | line => exact taking_keeps h fun _ _ hu hr => takeDraw_keeps rfl hu hr
  | seek => exact taking_keeps h fun _ _ hu hr => takeDraw_keeps rfl hu hr
  | plot => exact taking_keeps h fun _ _ hu hr => takeDraw_keeps rfl hu hr
  | probe => exact taking_keeps h fun _ _ hu hr => takeDraw_keeps rfl hu hr
  | engineAccessServed => exact accessing_keeps h (engineServed_keeps s)
  | drawAbort inService => exact happening_keeps (f := fun s => s.drawAborted inService) h (drawAborted_keeps _ _)
  | restart inService => exact accessing_keeps (f := fun s => s.restarted inService) h (restarted_keeps _ _)
  | paletteWrite => exact taking_keeps h fun _ e hu _ => writePalette_keeps hu.budget e
  | pickAt => exact taking_keeps h fun _ e hu _ => pickAt_keeps hu.budget e
  | readPicks => exact taking_keeps h fun _ e hu _ => readPicks_keeps hu.budget e
  | readCollisions => exact taking_keeps h fun _ e hu _ => readCollisions_keeps hu.budget e
  | readShortfall => exact answers_keep (payload := fun _ u => shortfallImage u.claim.last) h
  | readMembers => exact answers_keep (payload := fun _ u => u.member.members.flatMap memberImage) h
  | detach => exact taking_keeps h fun _ e hu _ => detach_keeps hu.budget e
  | rejoin => exact taking_keeps h fun _ e hu _ => rejoin_keeps hu.budget e
  | readStatus => exact answers_keep (payload := fun _ u => u.statusBytes) h
  | readEvents => exact taking_keeps h fun _ e hu _ => readEvents_keeps hu.budget e
  | lmarkLeadingEdge => exact happening_keeps h (leadingEdge_keeps s)
  | lineMark => exact happening_keeps (f := fun s => s.takeMark .line) h (takeMark_keeps _ _)
  | frameMark => exact happening_keeps (f := fun s => s.takeMark .frame) h (takeMark_keeps _ _)
  | lineTimerRunsOut => exact happening_keeps h (timerRunsOut_keeps s)
  | silenceCountLimit => exact happening_keeps h (silenceReached_keeps s)
  | frameWord others => exact happening_keeps (f := fun s => s.frameWordEnds others) h (frameWordEnds_keeps _ _)
  | announcePlace others => exact happening_keeps (f := fun s => s.announcePlaceEnds others) h (announcePlaceEnds_keeps _ _)
  | claimRound bids held => exact happening_keeps (f := fun s => s.claimRoundEnds bids held) h (claimRoundEnds_keeps _ _ _)
  | fetchAccessServed => exact accessing_keeps h (fetchServed_keeps s)
  | columnResolved rivals held join =>
    exact happening_keeps (f := fun s => s.columnResolved rivals held join) h (columnResolved_keeps _ _ _ _)
  | picktrigEdge => exact happening_keeps h (pickEdge_keeps s)

theorem step_keeps {s t : State} (h : step s = .next t) : s.Keeps t := by
  unfold step at h
  split at h
  · cases h
    exact tick_keeps s
  · exact .after (exec_keeps h) rfl

/-- Settles O58: every step keeps each of the three invariants, since each named operation does. -/
theorem stepKeepsTheSizes : Obligations.StepKeepsTheSizes :=
  ⟨fun _ _ hs h => (step_keeps h).capacity hs, fun _ _ hs h => (step_keeps h).shape hs, fun _ _ hs h => (step_keeps h).order hs⟩

end Sys2Proof.Machine
end

section
/-! SUPPORT. The reset state: its blocks, and the five invariants it meets. -/

namespace Sys2Proof.Machine

/-- Settles O4: `State.initial` writes out the value of each block, and an empty surface reads 0 at every position. -/
theorem resetLeavesEveryBlockInitial : Obligations.ResetLeavesEveryBlockInitial := by
  unfold Obligations.ResetLeavesEveryBlockInitial
  and_intros
  all_goals intros; rfl

/-- The reset station is in LISTEN and unsynced, with the timer stopped, every line released and every entry absent. -/
theorem reset_linkSound : State.reset.LinkSound where
  counter := by decide
  silence := by decide
  timer := rfl
  silent := fun _ => ⟨rfl, rfl, rfl⟩
  admitted := nofun
  detaching := nofun
  waits := by decide
  listens := by decide
  members := rfl
  missed := fun e he => by
    obtain rfl : e = .absent := List.eq_of_mem_replicate he
    exact ⟨Nat.zero_le 3, fun _ => rfl⟩
  place := nofun
  edge := nofun
  unsynced := fun _ => ⟨rfl, rfl, rfl, rfl⟩

/-- The records of the reset state are the cleared ones, and every collection that names places is empty. -/
theorem reset_placesSound : State.reset.PlacesSound where
  records := fun r hr => by
    obtain rfl : r = .cleared := List.eq_of_mem_replicate hr
    decide
  updates := nofun
  entries := nofun
  transfer := nofun
  queue := nofun
  engine := rfl
  candidates := nofun
  ownGrants := fun h => h.elim nofun nofun
  fetch := nofun
  edge := nofun

/-- Settles O57: the reset state meets each invariant. -/
theorem resetIsSound : Obligations.ResetIsSound :=
  ⟨reset_withinCapacity, reset_linkSound, reset_placesSound, reset_shapeSound, reset_orderSound⟩

end Sys2Proof.Machine
end

section
/-! SUPPORT. Bytes and the fields they carry: frames, the record image, and the draw payloads, each read back. -/

namespace Sys2Proof.Machine

/-! ### Numbers in bytes -/

/-- The two bytes of a number below 65536, low byte first, carry it. -/
theorem byte2_toNat {n : Nat} (h : n < 65536) : (BitVec.ofNat 8 n).toNat + 256 * (BitVec.ofNat 8 (n / 256)).toNat = n := by
  simp only [BitVec.toNat_ofNat]
  omega

theorem byte1_toNat {n : Nat} (h : n < 256) : (byte1 n).toNat = n := Nat.mod_eq_of_lt h

/-- The two's complement in sixteen bits carries a number of its range. -/
theorem ofInt16_toInt {x : Int} (hl : -32768 ≤ x) (hu : x < 32768) : (BitVec.ofInt 16 x).toInt = x := by
  simp only [BitVec.toInt_ofInt]
  exact Int.bmod_eq_of_le (by omega) (by omega)

/-! ### Frames (Tables 10-1 and 10-2) -/

/-- The sum of a frame's bytes is that of the numbers they hold, modulo 256. -/
theorem frameSum_eq (bytes : List Byte) : frameSum bytes = BitVec.ofNat 8 (bytes.map BitVec.toNat).sum := by
  have key : ∀ (l : List Byte) (start : Byte), l.foldl (· + ·) start = start + BitVec.ofNat 8 (l.map BitVec.toNat).sum := by
    intro l
    induction l with
    | nil => intro start; simp
    | cons b l ih =>
      intro start
      rw [List.foldl_cons, ih, List.map_cons, List.sum_cons, BitVec.ofNat_add, BitVec.ofNat_toNat, BitVec.setWidth_eq, BitVec.add_assoc]
  exact (key bytes 0#8).trans (BitVec.zero_add _)

theorem frameSum_append (a b : List Byte) : frameSum (a ++ b) = frameSum a + frameSum b := by
  simp only [frameSum_eq, List.map_append, List.sum_append, BitVec.ofNat_add]

/-- The check byte makes the sum of a frame 0. -/
theorem frameSum_checked (body : List Byte) : frameSum (body ++ [-(frameSum body)]) = 0#8 := by
  have hone : frameSum [-(frameSum body)] = -(frameSum body) := BitVec.zero_add _
  rw [frameSum_append, hone, BitVec.add_right_neg]

theorem commandFrame_length (code tag : Byte) (payload : List Byte) :
    (commandFrame code tag payload).length = 4 + payload.length := by
  simp [commandFrame, commandBody]; omega

/-- A command frame is read as the ordinary entry it carries, where it is no immediate command (R159, R164). -/
theorem receive_commandFrame {code tag : Byte} {payload : List Byte} (hl : payload.length ≤ 248)
    (ha : commandOf code ≠ some .drawAbort) (hr : commandOf code ≠ some .restart) :
    receive (commandFrame code tag payload) = .entry (Entry.ordinary code tag payload) := by
  have hlength : byteAt (commandFrame code tag payload) 2 = payload.length := byte1_toNat (by omega)
  have hcode : (commandFrame code tag payload).getD 0 0#8 = code := rfl
  have hwhole : (commandFrame code tag payload).take (4 + payload.length) = commandFrame code tag payload :=
    List.take_of_length_le (commandFrame_length ..).le
  have hsum : frameSum (commandFrame code tag payload) = 0#8 := frameSum_checked _
  have hpayload : ((commandFrame code tag payload).drop 3).take payload.length = payload := by
    simp [commandFrame, commandBody]
  unfold receive
  simp only [hlength, hwhole, hsum, hcode, commandFrame_length, lt_irrefl, decide_false, bne_self_eq_false, Bool.or_self,
    Bool.false_eq_true, if_false, Bool.and_eq_true, decide_eq_true_eq, beq_iff_eq, ha, hr, and_false]
  simp only [goodEntry, hlength, hcode, hl, if_true, hpayload]
  rfl

/-! ### The record image (Table 1-3) -/

/-- The fields of an attributes byte. -/
theorem attributesByte_fields (r : ObjectRecord) (h : r.cls ≤ 7) :
    ((attributesByte r).extractLsb' 0 3).toNat = r.cls ∧ (attributesByte r).getLsbD 3 = r.join ∧
      (attributesByte r).getLsbD 4 = r.watched ∧ (attributesByte r).getLsbD 5 = r.mirror ∧
      (attributesByte r).getLsbD 6 = r.tint.isSome ∧ (attributesByte r).getLsbD 7 = false := by
  have key : ∀ cls < 8, ∀ join watched mirror tinted : Bool,
      let a : Byte := BitVec.ofNat 8 (cls + 8 * join.toNat + 16 * watched.toNat + 32 * mirror.toNat + 64 * tinted.toNat)
      (a.extractLsb' 0 3).toNat = cls ∧ a.getLsbD 3 = join ∧ a.getLsbD 4 = watched ∧ a.getLsbD 5 = mirror ∧
        a.getLsbD 6 = tinted ∧ a.getLsbD 7 = false := by decide
  exact key r.cls (Nat.lt_succ_of_le h) r.join r.watched r.mirror r.tint.isSome

/-- The fit condition of a tint (R1). -/
theorem tintFits_iff (t : Tint) : tintFits t = true ↔ 1 ≤ t.length ∧ t.length ≤ 64 ∧ t.start + t.length ≤ 512 := by
  have hpool : tintCount = 512 := rfl
  simp only [tintFits, Bool.and_eq_true, decide_eq_true_eq]
  omega

/-- The ranges and fit conditions of a record that is not EMPTY (R1). -/
theorem recordFits_iff (r : ObjectRecord) :
    recordFits r = true ↔ -64 ≤ r.screenX ∧ r.screenX ≤ 1023 ∧ r.screenY ≤ 1023 ∧ 1 ≤ r.width ∧ r.width ≤ 64 ∧
      1 ≤ r.height ∧ r.height ≤ 64 ∧ r.sourceX ≤ 511 ∧ r.sourceY ≤ 511 ∧ r.cls ≤ 7 ∧ r.sourceX + r.width ≤ 512 ∧
      r.sourceY + r.height ≤ 512 ∧ r.tint.all tintFits = true := by
  have hsurface : surfaceSize = 512 := rfl
  simp only [recordFits, positionFits, Bool.and_eq_true, decide_eq_true_eq, and_assoc, hsurface]

/-- The image of a record that keeps its ranges holds its fields. -/
theorem imageRecord_recordImage {r : ObjectRecord} (h : recordFits r = true) : imageRecord r.state (recordImage r) = r := by
  obtain ⟨hx, hx', hy, -, hw, -, hh, hsx, hsy, hc, -, -, ht⟩ := (recordFits_iff r).1 h
  obtain ⟨hcls, hjoin, hwatched, hmirror, htint, -⟩ := attributesByte_fields r hc
  have hX : intAt (recordImage r) 1 = r.screenX := by
    have hword : wordAt (recordImage r) 1 = (BitVec.ofInt 16 r.screenX).toNat := byte2_toNat (BitVec.isLt _)
    rw [intAt, hword, BitVec.ofNat_toNat, BitVec.setWidth_eq, ofInt16_toInt (by omega) (by omega)]
  have hY : wordAt (recordImage r) 3 = r.screenY := byte2_toNat (by omega)
  have hW : byteAt (recordImage r) 5 = r.width := byte1_toNat (by omega)
  have hH : byteAt (recordImage r) 6 = r.height := byte1_toNat (by omega)
  have hSX : wordAt (recordImage r) 7 = r.sourceX := byte2_toNat (by omega)
  have hSY : wordAt (recordImage r) 9 = r.sourceY := byte2_toNat (by omega)
  have hA : (recordImage r).getD 11 0#8 = attributesByte r := rfl
  have hT : (if r.tint.isSome then some (Tint.mk (wordAt (recordImage r) 12) (byteAt (recordImage r) 14)) else none) = r.tint := by
    cases hr : r.tint with
    | none => rfl
    | some t =>
      obtain ⟨-, hlength, hpool⟩ := (tintFits_iff t).1 (by simpa [hr] using ht)
      have hstart : wordAt (recordImage r) 12 = ((r.tint.map Tint.start).getD 0) := byte2_toNat (by simp [hr]; omega)
      have hlast : byteAt (recordImage r) 14 = ((r.tint.map Tint.length).getD 0) := byte1_toNat (by simp [hr]; omega)
      simp [hstart, hlast, hr]
  simp only [imageRecord, hX, hY, hW, hH, hSX, hSY, hA, hcls, hjoin, hwatched, hmirror, htint, hT]

/-- An image keeps clear the bytes that hold no field (R5). -/
theorem imageSpareClear_recordImage {r : ObjectRecord} (h : r.cls ≤ 7) : imageSpareClear (recordImage r) = true := by
  obtain ⟨-, -, -, -, htint, hspare⟩ := attributesByte_fields r h
  have hA : (recordImage r).getD 11 0#8 = attributesByte r := rfl
  unfold imageSpareClear
  rw [hA, htint, hspare]
  cases hr : r.tint with
  | none => simp [recordImage, hr, byteAt, byte2, byte1]
  | some t => rfl

/-- Every record the table may hold is read back from its image (R4, R5). -/
theorem readImage_recordImage {r : ObjectRecord} (h : recordSound r = true) : readImage (recordImage r) = some r := by
  simp only [recordSound, Bool.or_eq_true, beq_iff_eq, Bool.and_eq_true, bne_iff_ne, ne_eq] at h
  obtain rfl | ⟨hstate, hfits⟩ := h
  · rfl
  · have hread := imageRecord_recordImage hfits
    obtain ⟨-, -, -, -, -, -, -, -, -, hc, -, -, -⟩ := (recordFits_iff r).1 hfits
    have hbyte : objStateOf (byteAt (recordImage r) 0) = some r.state := by
      show objStateOf (objStateByte r.state).toNat = _
      cases r.state <;> rfl
    unfold readImage
    rw [hbyte]
    cases hs : r.state with
    | empty => exact absurd hs hstate
    | _ =>
      rw [hs] at hread
      simp [hread, hfits, imageSpareClear_recordImage hc]

/-! ### The draw payloads (Tables 9-1 and 9-2) -/

/-- The fields of a mode byte. -/
theorem modeByte_fields (op : DrawOp) (skip bit4 bit5 sync : Bool) :
    drawOpOf ((modeByte (drawOpCode op) skip bit4 bit5 sync).extractLsb' 0 3).toNat = some op ∧
      (modeByte (drawOpCode op) skip bit4 bit5 sync).getLsbD 3 = skip ∧
      (modeByte (drawOpCode op) skip bit4 bit5 sync).getLsbD 4 = bit4 ∧
      (modeByte (drawOpCode op) skip bit4 bit5 sync).getLsbD 5 = bit5 ∧
      (modeByte (drawOpCode op) skip bit4 bit5 sync).getLsbD 7 = sync ∧
      modeByte (drawOpCode op) skip bit4 bit5 sync &&& 0x40#8 = 0#8 ∧
      modeByte (drawOpCode op) skip false false sync &&& 0x70#8 = 0#8 ∧
      modeByte (drawOpCode .set) false bit4 bit5 sync &&& 0x4F#8 = 0#8 ∧
      modeByte (drawOpCode .set) false false false sync &&& 0x7F#8 = 0#8 := by
  cases op <;> revert skip bit4 bit5 sync <;> decide

theorem inAxis_iff {n : Nat} : inAxis n = true ↔ n < 512 := decide_eq_true_iff

theorem extentFits_iff {n : Nat} : extentFits n = true ↔ 1 ≤ n ∧ n ≤ 512 := by simp [extentFits]

/-- Every draw command that passes its checks is spelled by its payload: each number of it fills two bytes. -/
theorem drawSpelled_drawPayload {d : DrawCmd} (h : drawFits d = true) : drawSpelled (drawCommand d) (drawPayload d) = some d := by
  cases d with
  | fill op skip sync x y w n colour =>
    obtain ⟨hop, hskip, -, -, hsync, -, hmask, -⟩ := modeByte_fields op skip false false sync
    simp only [drawFits, Bool.and_eq_true, inAxis_iff, extentFits_iff] at h
    have hx : wordAt (drawPayload (.fill op skip sync x y w n colour)) 1 = x := byte2_toNat (by omega)
    have hy : wordAt (drawPayload (.fill op skip sync x y w n colour)) 3 = y := byte2_toNat (by omega)
    have hw : wordAt (drawPayload (.fill op skip sync x y w n colour)) 5 = w := byte2_toNat (by omega)
    have hn : wordAt (drawPayload (.fill op skip sync x y w n colour)) 7 = n := byte2_toNat (by omega)
    have hmode : (drawPayload (.fill op skip sync x y w n colour)).getD 0 0#8 = modeByte (drawOpCode op) skip false false sync := rfl
    simp only [drawSpelled, drawCommand, hmode, hmask, hop, hskip, hsync, hx, hy, hw, hn, if_true, Option.map_some]
    rfl
  | copy op skip left up sync sx sy dx dy w n =>
    obtain ⟨hop, hskip, hleft, hup, hsync, hmask, -⟩ := modeByte_fields op skip left up sync
    simp only [drawFits, Bool.and_eq_true, inAxis_iff, extentFits_iff] at h
    have hsx : wordAt (drawPayload (.copy op skip left up sync sx sy dx dy w n)) 1 = sx := byte2_toNat (by omega)
    have hsy : wordAt (drawPayload (.copy op skip left up sync sx sy dx dy w n)) 3 = sy := byte2_toNat (by omega)
    have hdx : wordAt (drawPayload (.copy op skip left up sync sx sy dx dy w n)) 5 = dx := byte2_toNat (by omega)
    have hdy : wordAt (drawPayload (.copy op skip left up sync sx sy dx dy w n)) 7 = dy := byte2_toNat (by omega)
    have hw : wordAt (drawPayload (.copy op skip left up sync sx sy dx dy w n)) 9 = w := byte2_toNat (by omega)
    have hn : wordAt (drawPayload (.copy op skip left up sync sx sy dx dy w n)) 11 = n := byte2_toNat (by omega)
    have hmode : (drawPayload (.copy op skip left up sync sx sy dx dy w n)).getD 0 0#8 = modeByte (drawOpCode op) skip left up sync := rfl
    simp only [drawSpelled, drawCommand, hmode, hmask, hop, hskip, hleft, hup, hsync, hsx, hsy, hdx, hdy, hw, hn,
      if_true, Option.map_some]
  | line op skip sync x0 y0 x1 y1 colour =>
    obtain ⟨hop, hskip, -, -, hsync, -, hmask, -⟩ := modeByte_fields op skip false false sync
    simp only [drawFits, Bool.and_eq_true, inAxis_iff] at h
    have hx0 : wordAt (drawPayload (.line op skip sync x0 y0 x1 y1 colour)) 1 = x0 := byte2_toNat (by omega)
    have hy0 : wordAt (drawPayload (.line op skip sync x0 y0 x1 y1 colour)) 3 = y0 := byte2_toNat (by omega)
    have hx1 : wordAt (drawPayload (.line op skip sync x0 y0 x1 y1 colour)) 5 = x1 := byte2_toNat (by omega)
    have hy1 : wordAt (drawPayload (.line op skip sync x0 y0 x1 y1 colour)) 7 = y1 := byte2_toNat (by omega)
    have hmode : (drawPayload (.line op skip sync x0 y0 x1 y1 colour)).getD 0 0#8 = modeByte (drawOpCode op) skip false false sync := rfl
    simp only [drawSpelled, drawCommand, hmode, hmask, hop, hskip, hsync, hx0, hy0, hx1, hy1, if_true, Option.map_some]
    rfl
  | seek left differ sync x y value =>
    obtain ⟨-, -, hleft, hdiffer, hsync, -, -, hmask, -⟩ := modeByte_fields .set false left differ sync
    simp only [drawFits, Bool.and_eq_true, inAxis_iff] at h
    have hx : wordAt (drawPayload (.seek left differ sync x y value)) 1 = x := byte2_toNat (by omega)
    have hy : wordAt (drawPayload (.seek left differ sync x y value)) 3 = y := byte2_toNat (by omega)
    have hmode : (drawPayload (.seek left differ sync x y value)).getD 0 0#8 = modeByte (drawOpCode .set) false left differ sync := rfl
    simp only [drawSpelled, drawCommand, hmode, hmask, hleft, hdiffer, hsync, hx, hy, if_true]
    rfl
  | plot op skip sync x y colour =>
    obtain ⟨hop, hskip, -, -, hsync, -, hmask, -⟩ := modeByte_fields op skip false false sync
    simp only [drawFits, Bool.and_eq_true, inAxis_iff] at h
    have hx : wordAt (drawPayload (.plot op skip sync x y colour)) 1 = x := byte2_toNat (by omega)
    have hy : wordAt (drawPayload (.plot op skip sync x y colour)) 3 = y := byte2_toNat (by omega)
    have hmode : (drawPayload (.plot op skip sync x y colour)).getD 0 0#8 = modeByte (drawOpCode op) skip false false sync := rfl
    simp only [drawSpelled, drawCommand, hmode, hmask, hop, hskip, hsync, hx, hy, if_true, Option.map_some]
    rfl
  | probe sync x y =>
    obtain ⟨-, -, -, -, hsync, -, -, -, hmask⟩ := modeByte_fields .set false false false sync
    simp only [drawFits, Bool.and_eq_true, inAxis_iff] at h
    have hx : wordAt (drawPayload (.probe sync x y)) 1 = x := byte2_toNat (by omega)
    have hy : wordAt (drawPayload (.probe sync x y)) 3 = y := byte2_toNat (by omega)
    have hmode : (drawPayload (.probe sync x y)).getD 0 0#8 = modeByte (drawOpCode .set) false false false sync := rfl
    simp only [drawSpelled, drawCommand, hmode, hmask, hsync, hx, hy, if_true]

theorem readDraw_drawPayload {d : DrawCmd} (h : drawFits d = true) : readDraw (drawCommand d) (drawPayload d) = some d := by
  simp [readDraw, drawSpelled_drawPayload h, h]

/-! ### The layouts written out -/

theorem toNat_mul_eq_ite (n : Nat) (b : Bool) : n * b.toNat = if b then n else 0 := by
  cases b <;> simp

/-- The attributes byte, each flag at its weight (Table 1-3). -/
theorem attributesByte_eq (r : ObjectRecord) :
    attributesByte r = BitVec.ofNat 8 (r.cls + (if r.join then 8 else 0) + (if r.watched then 16 else 0) +
      (if r.mirror then 32 else 0) + (if r.tint.isSome then 64 else 0)) := by
  simp only [attributesByte, toNat_mul_eq_ite]

/-- The record image, with the state byte and an absent tint written out (Table 1-3). -/
theorem recordImage_eq (r : ObjectRecord) :
    recordImage r =
      [match r.state with | .empty => 0#8 | .hidden => 1#8 | .shown => 2#8 | .terminal => 3#8] ++
        byte2 (BitVec.ofInt 16 r.screenX).toNat ++ byte2 r.screenY ++
        [BitVec.ofNat 8 r.width, BitVec.ofNat 8 r.height] ++ byte2 r.sourceX ++ byte2 r.sourceY ++
        [BitVec.ofNat 8 (r.cls + (if r.join then 8 else 0) + (if r.watched then 16 else 0) +
          (if r.mirror then 32 else 0) + (if r.tint.isSome then 64 else 0))] ++
        (match r.tint with | none => [0#8, 0#8, 0#8] | some t => byte2 t.start ++ [BitVec.ofNat 8 t.length]) := by
  have hstate : (match r.state with | .empty => 0#8 | .hidden => 1#8 | .shown => 2#8 | .terminal => 3#8) =
      objStateByte r.state := by cases r.state <;> rfl
  have htint : (match r.tint with | none => [0#8, 0#8, 0#8] | some t => byte2 t.start ++ [BitVec.ofNat 8 t.length]) =
      byte2 ((r.tint.map Tint.start).getD 0) ++ [byte1 ((r.tint.map Tint.length).getD 0)] := by cases r.tint <;> rfl
  rw [← attributesByte_eq, hstate, htint]
  rfl

/-- The mode byte, each field at its weight (Table 9-2). -/
theorem modeByte_eq (op : DrawOp) (skip bit4 bit5 sync : Bool) :
    modeByte (drawOpCode op) skip bit4 bit5 sync =
      BitVec.ofNat 8 ((match op with | .set => 0 | .and => 1 | .or => 2 | .xor => 3 | .invert => 4) + (if skip then 8 else 0) +
        (if sync then 128 else 0) + (if bit4 then 16 else 0) + (if bit5 then 32 else 0)) := by
  have hop : (match op with | .set => 0 | .and => 1 | .or => 2 | .xor => 3 | .invert => 4) = drawOpCode op := by
    cases op <;> rfl
  rw [hop]
  simp only [modeByte, toNat_mul_eq_ite]
  congr 1
  omega

/-- A frame without its check byte is what stands before it. -/
theorem take_checked {body : List Byte} {check : Byte} {n : Nat} (h : body.length = n) : (body ++ [check]).take n = body :=
  List.take_left' h

/-- Settles O13: the layouts are the definitions written out, and each is read back field by field. -/
theorem framesAndPayloadsReadBack : Obligations.FramesAndPayloadsReadBack := by
  unfold Obligations.FramesAndPayloadsReadBack
  refine ⟨⟨fun r => ⟨frameSum_checked _, take_checked ?_, ?_⟩, rfl, frameSum_eq,
    fun code tag payload => ⟨frameSum_checked _, take_checked ?_, commandFrame_length ..⟩, fun _ _ _ => receive_commandFrame⟩,
    fun r h => ⟨rfl, readImage_recordImage h⟩, fun _ => readDraw_drawPayload, recordImage_eq, ?_⟩
  · simp [responseBody]; omega
  · simp [responseFrame, responseBody]; omega
  · simp [commandBody]; omega
  · intro mode
    have hmode : ∀ op skip sync, modeByte (drawOpCode op) skip false false sync = BitVec.ofNat 8 (mode op skip sync) :=
      fun op skip sync => modeByte_eq op skip false false sync
    have hseek : ∀ left differ sync : Bool, modeByte 0 false left differ sync =
        BitVec.ofNat 8 ((if left then 16 else 0) + (if differ then 32 else 0) + (if sync then 128 else 0)) := by decide
    refine ⟨fun op skip sync x y w h colour => ?_, fun op skip left up sync sx sy dx dy w h => ?_,
      fun op skip sync x0 y0 x1 y1 colour => ?_, fun left differ sync x y value => ?_, fun op skip sync x y colour => ?_,
      fun sync x y => ?_⟩
    · rw [← hmode]; rfl
    · exact congrArg (· :: (byte2 sx ++ byte2 sy ++ byte2 dx ++ byte2 dy ++ byte2 w ++ byte2 h))
        (modeByte_eq op skip left up sync)
    · rw [← hmode]; rfl
    · exact congrArg (· :: (byte2 x ++ byte2 y ++ [value])) (hseek left differ sync)
    · rw [← hmode]; rfl
    · cases sync <;> rfl

end Sys2Proof.Machine
end

section
/-! SUPPORT. The checks of a record image, and the object commands, TINT WRITE and PALETTE WRITE on the state that takes them. -/

namespace Sys2Proof.Machine

/-! ### The checks of a record image (R5) -/

/-- Two bytes, low byte first, as one number of sixteen bits. -/
theorem byte_append_toNat (low high : Byte) : (high ++ low : BitVec 16).toNat = low.toNat + 256 * high.toNat := by
  rw [BitVec.toNat_append, ← Nat.shiftLeft_add_eq_or_of_lt low.isLt, Nat.shiftLeft_eq]
  omega

theorem intAt_eq_append (p : List Byte) (i : Nat) : intAt p i = (p.getD (i + 1) 0#8 ++ p.getD i 0#8 : BitVec 16).toInt := by
  rw [intAt, wordAt, byteAt, byteAt, ← byte_append_toNat, BitVec.ofNat_toNat, BitVec.setWidth_eq]

/-- An image stores the cleared record where its state byte is 0 (R5). -/
theorem readImage_empty {p : List Byte} (h : byteAt p 0 = 0) : readImage p = some .cleared := by
  simp [readImage, h, objStateOf]

/-- An image with a state byte above 3 is refused (R5). -/
theorem readImage_badState {p : List Byte} (h : 3 < byteAt p 0) : readImage p = none := by
  have hstate : objStateOf (byteAt p 0) = none := by
    unfold objStateOf
    split
    all_goals first | omega | rfl
  simp [readImage, hstate]

/-- An image with a state byte of 1, 2 or 3 stores the record it holds, where that record fits and the spare bytes are clear. -/
theorem readImage_isSome {p : List Byte} (hl : 1 ≤ byteAt p 0) (hu : byteAt p 0 ≤ 3) :
    (readImage p).isSome = true ↔ recordFits (imageRecord .hidden p) = true ∧ imageSpareClear p = true := by
  have hany (st : ObjState) :
      (if recordFits (imageRecord st p) && imageSpareClear p then some (imageRecord st p) else none).isSome = true ↔
        recordFits (imageRecord .hidden p) = true ∧ imageSpareClear p = true := by
    rw [← Bool.and_eq_true, show recordFits (imageRecord st p) = recordFits (imageRecord .hidden p) from rfl]
    split <;> simp_all
  obtain h | h | h : byteAt p 0 = 1 ∨ byteAt p 0 = 2 ∨ byteAt p 0 = 3 := by omega
  · unfold readImage; rw [h]; exact hany .hidden
  · unfold readImage; rw [h]; exact hany .shown
  · unfold readImage; rw [h]; exact hany .terminal

/-- Bit 7 of a byte, and bit 6 of one below 128, compare it with 128 and with 64. -/
theorem byte_high_bits : ∀ b : Byte, (b.getLsbD 7 = false ↔ b.toNat < 128) ∧
    (b.toNat < 128 → (b.getLsbD 6 = true ↔ 64 ≤ b.toNat)) := by
  decide

/-- The spare bits and bytes of an image are 0 (R5). -/
theorem imageSpareClear_iff (p : List Byte) :
    imageSpareClear p = true ↔ byteAt p 11 < 128 ∧
      (byteAt p 11 < 64 → byteAt p 12 = 0 ∧ byteAt p 13 = 0 ∧ byteAt p 14 = 0) := by
  obtain ⟨h7, h6⟩ := byte_high_bits (p.getD 11 0#8)
  simp only [imageSpareClear, Bool.and_eq_true, Bool.not_eq_true', Bool.or_eq_true, beq_iff_eq, h7, and_assoc]
  refine and_congr_right fun hlt => ?_
  rw [h6 hlt, or_iff_not_imp_left, Nat.not_le]
  rfl

/-- The tint of an image is checked where bit 6 of the attributes has it present (R5). -/
theorem imageTint_iff {p : List Byte} (h : byteAt p 11 < 128) :
    (imageRecord .hidden p).tint.all tintFits = true ↔
      (64 ≤ byteAt p 11 → 1 ≤ byteAt p 14 ∧ byteAt p 14 ≤ 64 ∧ wordAt p 12 + byteAt p 14 ≤ 512) := by
  have h6 : (p.getD 11 0#8).getLsbD 6 = true ↔ 64 ≤ byteAt p 11 := (byte_high_bits _).2 h
  simp only [imageRecord]
  split
  · rename_i hbit
    rw [Option.all_some, tintFits_iff]
    exact ⟨fun h _ => h, fun h => h (h6.1 hbit)⟩
  · rename_i hbit
    exact iff_of_true rfl fun hlow => absurd (h6.2 hlow) hbit

/-- Settles O14: the state byte decides which checks are made, and the class of three bits is always in its range. -/
theorem recordImageIsCheckedWhole : Obligations.RecordImageIsCheckedWhole := by
  unfold Obligations.RecordImageIsCheckedWhole
  refine ⟨fun p i => ⟨rfl, rfl, intAt_eq_append p i⟩, fun p _ => ⟨readImage_empty, readImage_badState, fun hl hu => ?_⟩⟩
  have hcls : (imageRecord .hidden p).cls ≤ 7 := Nat.le_of_lt_succ (BitVec.isLt ((p.getD 11 0#8).extractLsb' 0 3))
  rw [readImage_isSome hl hu, recordFits_iff, imageSpareClear_iff]
  constructor
  · rintro ⟨⟨hx, hx', hy, hw, hw', hh, hh', hsx, hsy, -, hright, hbottom, htint⟩, hbit, hspare⟩
    exact ⟨hx, hx', hy, hw, hw', hh, hh', hsx, hsy, hright, hbottom, hbit, (imageTint_iff hbit).1 htint, hspare⟩
  · rintro ⟨hx, hx', hy, hw, hw', hh, hh', hsx, hsy, hright, hbottom, hbit, htint, hspare⟩
    exact ⟨⟨hx, hx', hy, hw, hw', hh, hh', hsx, hsy, hcls, hright, hbottom, (imageTint_iff hbit).2 htint⟩, hbit, hspare⟩

/-! ### OBJECT WRITE and OBJECT MOVE -/

/-- The row of a command takes an ordinary entry of its code and length, and carries it out. -/
theorem taking_ordinary {s : State} {c : Command} {code tag : Byte} {payload : List Byte} {rest : List Entry}
    (h : s.Takes (.ordinary code tag payload) rest) (hc : commandOf code = some c) (hl : commandAllows c payload.length = true)
    (act : Entry → State → State) :
    s.taking (Entry.runs c) act = .next (act (.ordinary code tag payload) (s.without rest)) :=
  taking_of h (runs_ordinary hc hl)

/-- The now row takes an OBJECT WRITE or OBJECT MOVE whose timing byte is not 1. -/
theorem now_ordinary {c : Command} {code tag timing : Byte} {payload : List Byte} (hc : commandOf code = some c)
    (hl : commandAllows c (timing :: payload).length = true) (ht : timing ≠ 1#8) :
    (Entry.ordinary code tag (timing :: payload)).now c = true := by
  have htiming : timingOf (.ordinary code tag (timing :: payload)) ≠ 1 := fun h => ht (BitVec.eq_of_toNat_eq h)
  simp [Entry.now, runs_ordinary hc hl, htiming]

/-- The at-frame row takes an OBJECT WRITE or OBJECT MOVE whose timing byte is 1. -/
theorem atFrame_ordinary {c : Command} {code tag : Byte} {payload : List Byte} (hc : commandOf code = some c)
    (hl : commandAllows c (1#8 :: payload).length = true) :
    (Entry.ordinary code tag (1#8 :: payload)).atFrame c = true := by
  simp only [Entry.atFrame, runs_ordinary hc hl, Bool.true_and]
  rfl

theorem queueUpdate_room {s : State} {e : Entry} {u : PendingEntry} (h : s.table.updates.length < 16) :
    s.queueUpdate e u = ({ s with table := { s.table with updates := s.table.updates ++ [u] } }).answer e .ok
      [BitVec.ofNat 8 (s.table.updates.length + 1)] := if_pos h

theorem queueUpdate_full {s : State} {e : Entry} {u : PendingEntry} (h : 16 ≤ s.table.updates.length) :
    s.queueUpdate e u = s.answer e .full [] := if_neg (Nat.not_lt.2 h)

/-- What an OBJECT WRITE carries, of the timing its row allows (R5). -/
theorem writeRecord_good {timing : Nat} {tag t n : Byte} {image : List Byte} (ht : t.toNat = timing) (hn : n.toNat < 48) :
    writeRecord timing (.ordinary 0x10#8 tag (t :: n :: image)) = readImage image := if_pos ⟨ht, hn⟩

theorem writeRecord_bad {timing : Nat} {tag t n : Byte} {image : List Byte}
    (h : t.toNat ≠ timing ∨ 48 ≤ n.toNat ∨ readImage image = none) :
    writeRecord timing (.ordinary 0x10#8 tag (t :: n :: image)) = none := by
  by_cases hgood : t.toNat = timing ∧ n.toNat < 48
  · rw [writeRecord_good hgood.1 hgood.2]
    obtain h | h | h := h
    · exact absurd hgood.1 h
    · exact absurd hgood.2 (Nat.not_lt.2 h)
    · exact h
  · exact if_neg hgood

theorem writeNow_some {s : State} {e : Entry} {r : ObjectRecord} (h : writeRecord 0 e = some r) :
    s.writeNow e = (s.setObject (objectOf e) r).answer e .ok [] := by simp [State.writeNow, h]

theorem writeNow_none {s : State} {e : Entry} (h : writeRecord 0 e = none) : s.writeNow e = s.answer e .badField [] := by
  simp [State.writeNow, h]

theorem writeAtFrame_some {s : State} {e : Entry} {r : ObjectRecord} (h : writeRecord 1 e = some r) :
    s.writeAtFrame e = s.queueUpdate e (.whole (objectOf e) r) := by simp [State.writeAtFrame, h]

theorem writeAtFrame_none {s : State} {e : Entry} (h : writeRecord 1 e = none) : s.writeAtFrame e = s.answer e .badField [] := by
  simp [State.writeAtFrame, h]

/-- A timing byte other than 0 is no timing 0. -/
theorem toNat_ne_zero {timing : Byte} (h : timing ≠ 0#8) : timing.toNat ≠ 0 := fun h0 => h (BitVec.eq_of_toNat_eq h0)

/-- Settles O15: the row that takes the command is the one of its timing byte. -/
theorem objectWriteSetsOrQueuesTheRecord : Obligations.ObjectWriteSetsOrQueuesTheRecord := by
  unfold Obligations.ObjectWriteSetsOrQueuesTheRecord
  refine ⟨fun s tag timing n image rest hl ht htakes => ?_, fun s tag n image rest hl htakes => ?_⟩
  · have hrun : exec .objectWriteNow s = .next (State.writeNow _ _) :=
      taking_of htakes (now_ordinary rfl (by simp [hl, commandAllows]) ht)
    rw [hrun]
    refine ⟨fun r htiming hn hr => ?_, fun hbad => ?_⟩
    · rw [writeNow_some ((writeRecord_good (congrArg BitVec.toNat htiming) hn).trans hr)]
      rfl
    · rw [writeNow_none (writeRecord_bad (hbad.imp_left toNat_ne_zero))]
      rfl
  · have hrun : exec .objectWriteAtFrame s = .next (State.writeAtFrame _ _) :=
      taking_of htakes (atFrame_ordinary rfl (by simp [hl, commandAllows]))
    have hgood : ∀ r, n.toNat < 48 → readImage image = some r →
        writeRecord 1 (.ordinary 0x10#8 tag (1#8 :: n :: image)) = some r := fun r hn hr => (writeRecord_good rfl hn).trans hr
    rw [hrun]
    refine ⟨fun r hn hr hroom => ?_, fun r hn hr hfull => ?_, fun hbad => ?_⟩
    · rw [writeAtFrame_some (hgood r hn hr), queueUpdate_room (s := s.without rest) hroom]
      rfl
    · rw [writeAtFrame_some (hgood r hn hr), queueUpdate_full (s := s.without rest) hfull]
      rfl
    · rw [writeAtFrame_none (writeRecord_bad (.inr hbad))]
      rfl

theorem positionFits_iff {x : Int} {y : Nat} : positionFits x y = true ↔ -64 ≤ x ∧ x ≤ 1023 ∧ y ≤ 1023 := by
  simp [positionFits, and_assoc]

/-- What an OBJECT MOVE carries, of the timing its row allows (R8). -/
theorem movePosition_ordinary (timing : Nat) (tag t n x0 x1 y0 y1 : Byte) :
    movePosition timing (.ordinary 0x11#8 tag [t, n, x0, x1, y0, y1]) =
      if t.toNat = timing ∧ n.toNat < 48 ∧ -64 ≤ (x1 ++ x0 : BitVec 16).toInt ∧ (x1 ++ x0 : BitVec 16).toInt ≤ 1023 ∧
          (y1 ++ y0 : BitVec 16).toNat ≤ 1023 then
        some ((x1 ++ x0 : BitVec 16).toInt, (y1 ++ y0 : BitVec 16).toNat)
      else none := by
  have hx : intAt [t, n, x0, x1, y0, y1] 2 = (x1 ++ x0 : BitVec 16).toInt := intAt_eq_append _ 2
  have hy : wordAt [t, n, x0, x1, y0, y1] 4 = (y1 ++ y0 : BitVec 16).toNat := (byte_append_toNat ..).symm
  have hpayload : (Entry.ordinary 0x11#8 tag [t, n, x0, x1, y0, y1]).payload = [t, n, x0, x1, y0, y1] := rfl
  simp only [movePosition, hpayload, hx, hy, positionFits_iff]
  rfl

theorem movePosition_good {timing : Nat} {tag t n x0 x1 y0 y1 : Byte} (ht : t.toNat = timing) (hn : n.toNat < 48)
    (hx : -64 ≤ (x1 ++ x0 : BitVec 16).toInt) (hx' : (x1 ++ x0 : BitVec 16).toInt ≤ 1023)
    (hy : (y1 ++ y0 : BitVec 16).toNat ≤ 1023) :
    movePosition timing (.ordinary 0x11#8 tag [t, n, x0, x1, y0, y1]) =
      some ((x1 ++ x0 : BitVec 16).toInt, (y1 ++ y0 : BitVec 16).toNat) := by
  rw [movePosition_ordinary, if_pos ⟨ht, hn, hx, hx', hy⟩]

theorem movePosition_bad {timing : Nat} {tag t n x0 x1 y0 y1 : Byte}
    (h : t.toNat ≠ timing ∨ 48 ≤ n.toNat ∨ (x1 ++ x0 : BitVec 16).toInt < -64 ∨ 1023 < (x1 ++ x0 : BitVec 16).toInt ∨
      1023 < (y1 ++ y0 : BitVec 16).toNat) :
    movePosition timing (.ordinary 0x11#8 tag [t, n, x0, x1, y0, y1]) = none := by
  rw [movePosition_ordinary, if_neg]
  omega

theorem moveNow_set {s : State} {e : Entry} {x : Int} {y : Nat} {r : ObjectRecord} (h : movePosition 0 e = some (x, y))
    (hr : s.table.objects.getD (objectOf e) .cleared = r) (hs : r.state ≠ .empty) :
    s.moveNow e = (s.setObject (objectOf e) { r with screenX := x, screenY := y }).answer e .ok [] := by
  subst hr
  simp only [State.moveNow, h, if_neg hs]

theorem moveNow_empty {s : State} {e : Entry} {x : Int} {y : Nat} {r : ObjectRecord} (h : movePosition 0 e = some (x, y))
    (hr : s.table.objects.getD (objectOf e) .cleared = r) (hs : r.state = .empty) :
    s.moveNow e = s.answer e .wrongState [] := by
  subst hr
  simp only [State.moveNow, h, if_pos hs]

theorem moveNow_none {s : State} {e : Entry} (h : movePosition 0 e = none) : s.moveNow e = s.answer e .badField [] := by
  simp only [State.moveNow, h]

theorem moveAtFrame_some {s : State} {e : Entry} {x : Int} {y : Nat} (h : movePosition 1 e = some (x, y)) :
    s.moveAtFrame e = s.queueUpdate e (.move (objectOf e) x y) := by simp only [State.moveAtFrame, h]

theorem moveAtFrame_none {s : State} {e : Entry} (h : movePosition 1 e = none) : s.moveAtFrame e = s.answer e .badField [] := by
  simp only [State.moveAtFrame, h]

/-- Settles O16: the row that takes the command is the one of its timing byte, and only the now row looks at the record. -/
theorem objectMoveSetsOrQueuesThePosition : Obligations.ObjectMoveSetsOrQueuesThePosition := by
  unfold Obligations.ObjectMoveSetsOrQueuesThePosition
  refine ⟨fun s tag timing n x0 x1 y0 y1 r rest ht htakes hr => ?_, fun s tag n x0 x1 y0 y1 rest htakes => ?_⟩
  · intro x y
    have hrun : exec .objectMoveNow s = .next (State.moveNow _ _) := taking_of htakes (now_ordinary rfl rfl ht)
    rw [hrun]
    refine ⟨fun htiming hn hx hx' hy hstate => ?_, fun htiming hn hx hx' hy hstate => ?_, fun hbad => ?_⟩
    · rw [moveNow_set (s := s.without rest) (movePosition_good (congrArg BitVec.toNat htiming) hn hx hx' hy) hr hstate]
      rfl
    · rw [moveNow_empty (s := s.without rest) (movePosition_good (congrArg BitVec.toNat htiming) hn hx hx' hy) hr hstate]
      rfl
    · rw [moveNow_none (movePosition_bad (hbad.imp_left toNat_ne_zero))]
      rfl
  · intro x y
    have hrun : exec .objectMoveAtFrame s = .next (State.moveAtFrame _ _) := taking_of htakes (atFrame_ordinary rfl rfl)
    rw [hrun]
    refine ⟨fun hn hx hx' hy hroom => ?_, fun hn hx hx' hy hfull => ?_, fun hbad => ?_⟩
    · rw [moveAtFrame_some (movePosition_good rfl hn hx hx' hy), queueUpdate_room (s := s.without rest) hroom]
      rfl
    · rw [moveAtFrame_some (movePosition_good rfl hn hx hx' hy), queueUpdate_full (s := s.without rest) hfull]
      rfl
    · rw [moveAtFrame_none (movePosition_bad (.inr hbad))]
      rfl

/-! ### OBJECT READ and FLUSH PENDING -/

/-- The low and the high byte of a word, as an image carries them. -/
theorem byte2_word (w : BitVec 16) : byte2 w.toNat = [w.extractLsb' 0 8, w.extractLsb' 8 8] := by
  have hlow : BitVec.ofNat 8 w.toNat = w.extractLsb' 0 8 := by
    apply BitVec.eq_of_toNat_eq
    simp
  have hhigh : BitVec.ofNat 8 (w.toNat / 256) = w.extractLsb' 8 8 := by
    apply BitVec.eq_of_toNat_eq
    simp [Nat.shiftRight_eq_div_pow]
  rw [byte2, hlow, hhigh]

/-- Settles O17: the image is that of the record in the table (R4). -/
theorem objectReadReturnsTheRecord : Obligations.ObjectReadReturnsTheRecord := by
  unfold Obligations.ObjectReadReturnsTheRecord
  intro s tag n rest htakes r x
  have hrun : exec .objectRead s = .next (State.readObject _ _) := taking_ordinary htakes rfl rfl _
  rw [hrun]
  refine ⟨fun hn => ?_, fun hn => ?_⟩
  · have hread : (s.without rest).readObject (.ordinary 0x12#8 tag [n]) =
        (s.without rest).answer (.ordinary 0x12#8 tag [n]) .ok (recordImage r) := if_pos hn
    rw [hread, recordImage_eq, byte2_word]
    rfl
  · have hread : (s.without rest).readObject (.ordinary 0x12#8 tag [n]) =
        (s.without rest).answer (.ordinary 0x12#8 tag [n]) .badField [] := if_neg (Nat.not_lt.2 hn)
    rw [hread]
    rfl

/-- Settles O18: no entry of the queue is looked at. -/
theorem flushPendingDiscardsTheEntries : Obligations.FlushPendingDiscardsTheEntries := by
  unfold Obligations.FlushPendingDiscardsTheEntries
  intro s tag rest htakes
  exact taking_ordinary htakes rfl rfl State.flushPending

/-! ### TINT WRITE and PALETTE WRITE -/

theorem writeTint_fits {s : State} {e : Entry} {start : Nat} {colours : List Byte} (hs : wordAt e.payload 0 = start)
    (hc : e.payload.drop 2 = colours) (h : start + colours.length ≤ 512) :
    s.writeTint e = ({ s with tints := setRun s.tints start colours }).answer e .ok [] := by
  subst hs hc
  exact if_pos h

theorem writeTint_past {s : State} {e : Entry} {start : Nat} {colours : List Byte} (hs : wordAt e.payload 0 = start)
    (hc : e.payload.drop 2 = colours) (h : 512 < start + colours.length) : s.writeTint e = s.answer e .badField [] := by
  subst hs hc
  exact if_neg (Nat.not_le.2 h)

/-- Three bytes for each entry, red, green and blue (R101). -/
def levelBytes (entries : List Rgb) : List Byte := entries.flatMap fun c => [c.red, c.green, c.blue]

theorem paletteEntries_levelBytes (entries : List Rgb) : paletteEntries (levelBytes entries) = entries := by
  induction entries with
  | nil => rfl
  | cons c entries ih => exact congrArg (c :: ·) ih

theorem levelBytes_length (entries : List Rgb) : (levelBytes entries).length = 3 * entries.length := by
  induction entries with
  | nil => rfl
  | cons c entries ih =>
    rw [levelBytes, List.flatMap_cons, List.length_append, ← levelBytes, ih, List.length_cons]
    simp only [List.length_cons, List.length_nil]
    omega

theorem levelBytes_le (entries : List Rgb) :
    (levelBytes entries).all (fun b => decide (b.toNat ≤ 63)) = true ↔
      ∀ c ∈ entries, c.red.toNat ≤ 63 ∧ c.green.toNat ≤ 63 ∧ c.blue.toNat ≤ 63 := by
  simp [levelBytes]

theorem writePalette_fits {s : State} {tag start : Byte} {entries : List Rgb} (h : start.toNat + entries.length ≤ 256)
    (hl : ∀ c ∈ entries, c.red.toNat ≤ 63 ∧ c.green.toNat ≤ 63 ∧ c.blue.toNat ≤ 63) :
    s.writePalette (.ordinary 0x40#8 tag (start :: levelBytes entries)) =
      ({ s with output := { s.output with palette := setRun s.output.palette start.toNat entries } }).answer
        (.ordinary 0x40#8 tag (start :: levelBytes entries)) .ok [] := by
  have hrun : paletteEntries ((start :: levelBytes entries).drop 1) = entries := paletteEntries_levelBytes entries
  simp only [State.writePalette, Entry.ordinary, hrun]
  exact if_pos ⟨h, (levelBytes_le entries).2 hl⟩

theorem writePalette_refused {s : State} {tag start : Byte} {entries : List Rgb}
    (h : ¬(start.toNat + entries.length ≤ 256 ∧ ∀ c ∈ entries, c.red.toNat ≤ 63 ∧ c.green.toNat ≤ 63 ∧ c.blue.toNat ≤ 63)) :
    s.writePalette (.ordinary 0x40#8 tag (start :: levelBytes entries)) =
      s.answer (.ordinary 0x40#8 tag (start :: levelBytes entries)) .badField [] := by
  have hrun : paletteEntries ((start :: levelBytes entries).drop 1) = entries := paletteEntries_levelBytes entries
  simp only [State.writePalette, Entry.ordinary, hrun]
  exact if_neg fun hgood => h ⟨hgood.1, (levelBytes_le entries).1 hgood.2⟩

/-- Settles O19: a run that fits replaces exactly its own entries. -/
theorem tintAndPaletteWritesSetARun : Obligations.TintAndPaletteWritesSetARun := by
  unfold Obligations.TintAndPaletteWritesSetARun
  refine ⟨fun s tag s0 s1 colours rest hl hu hpool htakes => ?_, fun s tag start entries rest hl hu hpalette => ?_⟩
  · intro start
    have hstart : wordAt (Entry.ordinary 0x14#8 tag (s0 :: s1 :: colours)).payload 0 = start := (byte_append_toNat ..).symm
    have hrun : exec .tintWrite s = .next (State.writeTint _ _) :=
      taking_ordinary htakes rfl (by simp [commandAllows]; omega) _
    rw [hrun]
    refine ⟨fun hpast => ?_, fun hfits => ⟨setRun s.tints start colours, ?_, ?_, fun i => ?_, fun i => ?_⟩⟩
    · rw [writeTint_past hstart rfl hpast]
      rfl
    · rw [writeTint_fits hstart rfl hfits]
      rfl
    · rw [setRun_length _ _ _ (hpool ▸ hfits), hpool]
    · exact setRun_inside _ _ _ _ _ (hpool ▸ hfits)
    · exact setRun_outside _ _ _ _ _ (hpool ▸ hfits)
  · intro payload htakes
    have hlength : payload.length = 1 + 3 * entries.length := by
      rw [List.length_cons, ← levelBytes, levelBytes_length, Nat.add_comm]
    have hrun : exec .paletteWrite s = .next (State.writePalette _ _) :=
      taking_ordinary htakes rfl (by simp [hlength, commandAllows]; omega) _
    rw [hrun]
    refine ⟨fun hbad => ?_, fun hfits hlevels => ⟨setRun s.output.palette start.toNat entries, ?_, ?_, fun i => ?_, fun i => ?_⟩⟩
    · refine congrArg Host.Outcome.next (writePalette_refused (s := s.without rest) fun hgood => ?_)
      obtain hpast | ⟨c, hc, hlevel⟩ := hbad
      · exact Nat.not_le.2 hpast hgood.1
      · have := hgood.2 c hc
        omega
    · exact congrArg Host.Outcome.next (writePalette_fits (s := s.without rest) hfits hlevels)
    · rw [setRun_length _ _ _ (hpalette ▸ hfits), hpalette]
    · exact setRun_inside _ _ _ _ _ (hpalette ▸ hfits)
    · exact setRun_outside _ _ _ _ _ (hpalette ▸ hfits)

end Sys2Proof.Machine
end

section
/-! SUPPORT. How pending entries are applied, and which records form the candidate list, in which order. -/

namespace Sys2Proof.Machine

/-! ### Applying a pending entry (R12) -/

theorem getD_set {α : Type} {l : List α} {n : Nat} (h : n < l.length) (a d : α) (m : Nat) :
    (l.set n a).getD m d = if m = n then a else l.getD m d := by
  rw [List.getD_eq_getElem?_getD, List.getElem?_set, List.getD_eq_getElem?_getD]
  by_cases hm : m = n
  · simp [hm, h]
  · simp [hm, Ne.symm hm]

theorem applyUpdate_move_getD {objects : List ObjectRecord} {n : Nat} (h : n < objects.length) (x : Int) (y m : Nat) :
    (applyUpdate objects (.move n x y)).getD m .cleared =
      if m = n ∧ (objects.getD n .cleared).state ≠ .empty then
        { objects.getD n .cleared with screenX := x, screenY := y }
      else objects.getD m .cleared := by
  simp only [applyUpdate]
  by_cases hs : (objects.getD n .cleared).state = .empty
  · rw [if_pos hs, if_neg fun h => h.2 hs]
  · rw [if_neg hs, getD_set h]
    simp only [ne_eq, hs, not_false_eq_true, and_true]

/-! ### The scan of the Object Table (R19) -/

/-- The scan stops at a TERMINAL record, and takes a SHOWN one that covers the line. -/
theorem scanRecords_cons (L i : Nat) (r : ObjectRecord) (rest : List ObjectRecord) :
    scanRecords L i (r :: rest) =
      if r.state = .terminal then []
      else (if r.state = .shown ∧ coversLine L r = true then [captureRecord i r] else []) ++ scanRecords L (i + 1) rest := by
  cases hs : r.state <;> simp only [scanRecords, hs]
  case shown => cases coversLine L r <;> simp
  all_goals simp

/-- A record is selected for line `L` from a table: SHOWN, over the line, below the first TERMINAL record (R19). -/
structure SelectedAt (L : Nat) (objects : List ObjectRecord) (n : Nat) (r : ObjectRecord) : Prop where
  stands : objects[n]? = some r
  shown : r.state = .shown
  covers : coversLine L r = true
  before : ∀ m, m < n → (objects.getD m .cleared).state ≠ .terminal

theorem selectedAt_zero {L : Nat} {r r' : ObjectRecord} {rest : List ObjectRecord} :
    SelectedAt L (r :: rest) 0 r' ↔ r = r' ∧ r'.state = .shown ∧ coversLine L r' = true :=
  ⟨fun h => ⟨Option.some.inj h.stands, h.shown, h.covers⟩, fun ⟨hr, hs, hc⟩ => ⟨congrArg some hr, hs, hc, nofun⟩⟩

theorem selectedAt_succ {L n : Nat} {r r' : ObjectRecord} {rest : List ObjectRecord} :
    SelectedAt L (r :: rest) (n + 1) r' ↔ r.state ≠ .terminal ∧ SelectedAt L rest n r' := by
  constructor
  · intro h
    exact ⟨h.before 0 n.succ_pos, ⟨h.stands, h.shown, h.covers, fun m hm => h.before (m + 1) (Nat.succ_lt_succ hm)⟩⟩
  · rintro ⟨hr, h⟩
    refine ⟨h.stands, h.shown, h.covers, fun m hm => ?_⟩
    cases m with
    | zero => exact hr
    | succ m => exact h.before m (Nat.lt_of_succ_lt_succ hm)

/-- The scan gives the captured copies of exactly the selected records. -/
theorem mem_scanRecords {L i : Nat} {objects : List ObjectRecord} {c : Candidate} :
    c ∈ scanRecords L i objects ↔ ∃ k r, SelectedAt L objects k r ∧ c = captureRecord (i + k) r := by
  induction objects generalizing i with
  | nil => exact ⟨nofun, fun ⟨_, _, h, _⟩ => nomatch h.stands⟩
  | cons r rest ih =>
    rw [scanRecords_cons, ← Nat.or_exists_add_one]
    simp only [selectedAt_zero, selectedAt_succ]
    split
    · rename_i hterminal
      simp [hterminal]
    · rename_i hterminal
      rw [List.mem_append, ih]
      refine or_congr ?_ ?_
      · split
        · rename_i hselects
          simp [hselects]
        · rename_i hselects
          simp only [List.not_mem_nil, false_iff]
          rintro ⟨_, ⟨rfl, hshown, hcovers⟩, -⟩
          exact hselects ⟨hshown, hcovers⟩
      · simp only [hterminal, ne_eq, not_false_eq_true, true_and, Nat.add_right_comm, Nat.add_assoc]

/-- The scan goes by number. -/
theorem scanRecords_pairwise (L i : Nat) (objects : List ObjectRecord) :
    (scanRecords L i objects).Pairwise fun a b => a.object < b.object := by
  induction objects generalizing i with
  | nil => exact .nil
  | cons r rest ih =>
    have hlater : ∀ b ∈ scanRecords L (i + 1) rest, i < b.object := by
      intro b hb
      obtain ⟨k, r', -, rfl⟩ := mem_scanRecords.1 hb
      simp only [captureRecord]
      omega
    rw [scanRecords_cons]
    split
    · exact .nil
    · split
      · exact List.pairwise_cons.2 ⟨hlater, ih _⟩
      · exact ih _

/-! ### The candidate list (R20) -/

theorem mem_orderCandidates {l : List Candidate} {c : Candidate} : c ∈ orderCandidates l ↔ c ∈ l ∧ c.cls ≤ 7 := by
  simp only [orderCandidates, List.mem_flatMap, List.mem_filter, beq_iff_eq]
  constructor
  · rintro ⟨cls, hcls, hc, rfl⟩
    exact ⟨hc, by simp [classesDown] at hcls; omega⟩
  · rintro ⟨hc, hle⟩
    exact ⟨c.cls, by simp [classesDown]; omega, hc, rfl⟩

/-- The order by class, highest first, and by number within a class (R20). -/
def Candidate.before (a b : Candidate) : Prop := b.cls < a.cls ∨ (a.cls = b.cls ∧ a.object < b.object)

/-- Candidates in the order of their numbers come out in the order of R20. -/
theorem orderCandidates_pairwise {l : List Candidate} (h : l.Pairwise fun a b => a.object < b.object) :
    (orderCandidates l).Pairwise Candidate.before := by
  refine List.pairwise_flatMap.2 ⟨fun cls _ => ?_, ?_⟩
  · refine (h.sublist List.filter_sublist).imp_of_mem fun ha hb hlt => .inr ⟨?_, hlt⟩
    have ha := (List.mem_filter.1 ha).2
    have hb := (List.mem_filter.1 hb).2
    simp_all
  · have hdown : classesDown.Pairwise fun a b => b < a := by decide
    refine hdown.imp fun hlt x hx y hy => .inl ?_
    have hx := (List.mem_filter.1 hx).2
    have hy := (List.mem_filter.1 hy).2
    simp_all

/-- The candidates of a line are the captured copies of the selected records, where every class is one of R1. -/
theorem mem_selected {s : State} {L : Nat} (hcls : ∀ r ∈ s.table.objects, r.cls ≤ 7) {c : Candidate} :
    c ∈ s.selected L ↔ ∃ n r, SelectedAt L s.table.objects n r ∧ c = captureRecord n r := by
  simp only [State.selected, mem_orderCandidates, mem_scanRecords, Nat.zero_add, and_iff_left_iff_imp]
  rintro ⟨n, r, h, rfl⟩
  exact hcls r (List.mem_of_getElem? h.stands)

theorem coversLine_iff {L : Nat} {r : ObjectRecord} : coversLine L r = true ↔ r.screenY ≤ L ∧ L < r.screenY + r.height := by
  simp [coversLine]

/-- The record that stands at a number is in the candidate list exactly where it is selected. -/
theorem capture_mem_selected {s : State} {L n : Nat} {r : ObjectRecord} (hcls : ∀ r ∈ s.table.objects, r.cls ≤ 7) :
    captureRecord n r ∈ s.selected L ∧ s.table.objects[n]? = some r ↔ SelectedAt L s.table.objects n r := by
  rw [mem_selected hcls]
  constructor
  · rintro ⟨⟨n', r', h, hcapture⟩, hstands⟩
    obtain rfl : n = n' := congrArg Candidate.object hcapture
    obtain rfl : r = r' := Option.some.inj (hstands.symm.trans h.stands)
    exact h
  · exact fun h => ⟨⟨n, r, h, rfl⟩, h.stands⟩

/-- Settles O20: the scan gives the selected records by number, and the list orders them by class. -/
theorem tableFeedsTheCandidateList : Obligations.TableFeedsTheCandidateList := by
  unfold Obligations.TableFeedsTheCandidateList
  refine ⟨fun objects n h => ⟨fun r m => getD_set h _ _ m, fun x y m => applyUpdate_move_getD h x y m, applyUpdate_length objects⟩,
    fun _ _ => rfl, fun s L hcls => ⟨rfl, fun n r => ?_, fun c hc => ?_, orderCandidates_pairwise (scanRecords_pairwise _ _ _)⟩⟩
  · rw [capture_mem_selected hcls]
    exact ⟨fun h => ⟨h.stands, h.shown, (coversLine_iff.1 h.covers).1, (coversLine_iff.1 h.covers).2, h.before⟩,
      fun ⟨hstands, hshown, htop, hbottom, hbefore⟩ => ⟨hstands, hshown, coversLine_iff.2 ⟨htop, hbottom⟩, hbefore⟩⟩
  · obtain ⟨n, r, h, rfl⟩ := (mem_selected hcls).1 hc
    exact ⟨r, h.stands, rfl⟩

end Sys2Proof.Machine
end

section
/-! SUPPORT. A mark taken at its decision point: what it leaves as it was, and what a line mark and a frame mark change. -/

namespace Sys2Proof.Machine

/-! ### The decision point (R24) -/

/-- A driven frame mark still stands at the decision point, and no other mark comes to be one on the way. -/
theorem reach_lmark_frame (s : State) : (s.reach decisionPoint).link.lmark = some .frame ↔ s.link.lmark = some .frame := by
  unfold State.reach
  split
  · rename_i hlt
    have hat : s.link.pixelTime + (decisionPoint - s.link.pixelTime) < markLength .frame := by
      simp only [decisionPoint, markLength] at hlt ⊢
      omega
    rw [State.passTime_link_lmark, Option.filter_eq_some_iff]
    exact and_iff_left (decide_eq_true hat)
  · rfl

theorem reach_frameDriven (s : State) (p : Nat) : (s.reach p).link.frameDriven = s.link.frameDriven := by
  unfold State.reach
  split <;> rfl

/-- A mark whose leading edge has been seen is a frame mark where the station's own frame assertion makes it one (R24, R31). -/
theorem takeMark_own_frame {s : State} {seen : MarkKind} (he : s.link.edgeSeen = true)
    (hf : s.link.lmark = some .frame ∨ s.link.frameDriven = true) :
    s.takeMark seen = (s.reach decisionPoint).takeFrameMark := by
  have hkind : (s.reach decisionPoint).markKind seen = .frame :=
    if_pos (hf.imp (reach_lmark_frame s).2 (reach_frameDriven s _).trans)
  simp only [State.takeMark, leadingEdge_seen s he, hkind]

/-- A line mark whose leading edge has been seen, without an own frame assertion. -/
theorem takeMark_line {s : State} (he : s.link.edgeSeen = true) (hl : s.link.lmark ≠ some .frame)
    (hd : s.link.frameDriven = false) : s.takeMark .line = (s.reach decisionPoint).takeLineMark := by
  have hkind : (s.reach decisionPoint).markKind .line = .line := by
    refine if_neg fun hf => ?_
    rw [reach_lmark_frame, reach_frameDriven, hd] at hf
    exact hf.elim hl nofun
  simp only [State.takeMark, leadingEdge_seen s he, hkind]

/-- A frame mark whose leading edge has been seen. -/
theorem takeMark_frame {s : State} (he : s.link.edgeSeen = true) : s.takeMark .frame = (s.reach decisionPoint).takeFrameMark := by
  have hkind : (s.reach decisionPoint).markKind .frame = .frame := ite_self _
  simp only [State.takeMark, leadingEdge_seen s he, hkind]

/-! ### The own state at a mark -/

/-- What a line mark leaves as it was once its clocks are set. The line timer keeps to the own state (R30). -/
structure State.MarkFrame (s t : State) : Prop where
  straps : t.straps = s.straps
  table : t.table = s.table
  tints : t.tints = s.tints
  palette : t.output.palette = s.output.palette
  collisions : t.collisions = s.collisions
  picks : t.picks = s.picks
  surface : t.surface = s.surface
  arbiter : t.arbiter = s.arbiter
  engine : t.engine = s.engine
  commands : t.port.commands = s.port.commands
  responses : t.port.responses = s.port.responses
  transfer : t.port.transfer = s.port.transfer
  last : t.claim.last = s.claim.last
  members : t.member.members = s.member.members
  frameNumber : t.link.frameNumber = s.link.frameNumber
  synced : t.link.synced = s.link.synced
  silenceCount : t.link.silenceCount = s.link.silenceCount
  silencePixels : t.link.silencePixels = s.link.silencePixels
  edgeSeen : t.link.edgeSeen = s.link.edgeSeen
  pixelTime : t.link.pixelTime = s.link.pixelTime
  timer : s.link.lineTimer = (if s.member.own.drives then some s.link.pixelTime else none) →
    t.link.lineTimer = if t.member.own.drives then some t.link.pixelTime else none

/-- What a change of the own state at a mark leaves as it was: beside the rest, the Claim Unit, the Line Assembler, the line
counter and the counts of SLIP and SHORTFALL (R43, R64). -/
structure State.OwnChange (s t : State) : Prop extends State.MarkFrame s t where
  claim : t.claim = s.claim
  lines : t.lines = s.lines
  lineCounter : t.link.lineCounter = s.link.lineCounter
  slip : t.port.events.slip = s.port.events.slip
  shortfall : t.port.events.shortfall = s.port.events.shortfall

theorem State.MarkFrame.trans {s t u : State} (h : s.MarkFrame t) (k : t.MarkFrame u) : s.MarkFrame u where
  straps := k.straps.trans h.straps
  table := k.table.trans h.table
  tints := k.tints.trans h.tints
  palette := k.palette.trans h.palette
  collisions := k.collisions.trans h.collisions
  picks := k.picks.trans h.picks
  surface := k.surface.trans h.surface
  arbiter := k.arbiter.trans h.arbiter
  engine := k.engine.trans h.engine
  commands := k.commands.trans h.commands
  responses := k.responses.trans h.responses
  transfer := k.transfer.trans h.transfer
  last := k.last.trans h.last
  members := k.members.trans h.members
  frameNumber := k.frameNumber.trans h.frameNumber
  synced := k.synced.trans h.synced
  silenceCount := k.silenceCount.trans h.silenceCount
  silencePixels := k.silencePixels.trans h.silencePixels
  edgeSeen := k.edgeSeen.trans h.edgeSeen
  pixelTime := k.pixelTime.trans h.pixelTime
  timer := k.timer ∘ h.timer

theorem State.OwnChange.refl (s : State) : s.OwnChange s := by
  constructor
  case toMarkFrame =>
    constructor
    case timer => exact id
    all_goals rfl
  all_goals rfl

theorem State.OwnChange.ite {c : Prop} [Decidable c] {s t u : State} (ht : s.OwnChange t) (hu : s.OwnChange u) :
    s.OwnChange (if c then t else u) := by
  split
  · exact ht
  · exact hu

/-- The line timer after a change of the own state runs exactly where the new state drives (R30). -/
theorem changeState_timer (s : State) (new : OwnState)
    (h : s.link.lineTimer = if s.member.own.drives then some s.link.pixelTime else none) :
    (s.changeState new).link.lineTimer = if new.drives then some s.link.pixelTime else none := by
  have hstart : s.link.lineTimer.getD s.link.pixelTime = s.link.pixelTime := by
    rw [h]
    split <;> rfl
  cases hd : new.drives with
  | false => rw [changeState_link_silent s new hd, if_neg Bool.false_ne_true]
  | true => rw [changeState_link_drives s new hd, hstart, if_pos rfl]

theorem changeState_ownChange (s : State) (new : OwnState) : s.OwnChange (s.changeState new) := by
  have htime : (s.changeState new).link.pixelTime = s.link.pixelTime := by unfold State.changeState; split <;> rfl
  have hown : (s.changeState new).member.own = new := by rw [changeState_member]
  constructor
  case toMarkFrame =>
    constructor
    case timer => exact fun h => by rw [changeState_timer s new h, hown, htime]
    all_goals unfold State.changeState; split <;> rfl
  all_goals unfold State.changeState; split <;> rfl

theorem consumeFlags_ownChange (s : State) (kind : MarkKind) : s.OwnChange (s.consumeFlags kind) :=
  .ite (changeState_ownChange s _) (.ite (changeState_ownChange s _) (.refl s))

theorem frameMembership_ownChange (s : State) (wasSynced : Bool) : s.OwnChange (s.frameMembership wasSynced) := by
  refine .ite (.ite (changeState_ownChange s _) ?_) (consumeFlags_ownChange s _)
  have h := consumeFlags_ownChange { s with member := { s.member with windowWait := s.member.windowWait + 1 } } .frame
  exact {
    toMarkFrame := { h.toMarkFrame with }
    claim := h.claim
    lines := h.lines
    lineCounter := h.lineCounter
    slip := h.slip
    shortfall := h.shortfall }

/-- At a line mark only a detach pending changes the own state (R64). -/
theorem consumeFlags_line (s : State) :
    s.consumeFlags .line =
      if s.member.detachPending = true ∧ s.member.own = .member then s.changeState .detached else s := by
  simp [State.consumeFlags, State.isMember]

/-! ### What every mark does first -/

/-- The state of a mark once its clocks are set, at its decision point (R24, R30, R32). -/
def State.clocked (s : State) : State := (s.reach decisionPoint).restartClocks

theorem clocked_eq (s : State) : s.clocked = { s with link := s.clocked.link, output := s.clocked.output } := by
  unfold State.clocked State.reach
  split <;> rfl

@[simp] theorem clocked_resetPin (s : State) : s.clocked.resetPin = s.resetPin := by rw [clocked_eq]
@[simp] theorem clocked_straps (s : State) : s.clocked.straps = s.straps := by rw [clocked_eq]
@[simp] theorem clocked_port (s : State) : s.clocked.port = s.port := by rw [clocked_eq]
@[simp] theorem clocked_table (s : State) : s.clocked.table = s.table := by rw [clocked_eq]
@[simp] theorem clocked_tints (s : State) : s.clocked.tints = s.tints := by rw [clocked_eq]
@[simp] theorem clocked_member (s : State) : s.clocked.member = s.member := by rw [clocked_eq]
@[simp] theorem clocked_claim (s : State) : s.clocked.claim = s.claim := by rw [clocked_eq]
@[simp] theorem clocked_lines (s : State) : s.clocked.lines = s.lines := by rw [clocked_eq]
@[simp] theorem clocked_collisions (s : State) : s.clocked.collisions = s.collisions := by rw [clocked_eq]
@[simp] theorem clocked_picks (s : State) : s.clocked.picks = s.picks := by rw [clocked_eq]
@[simp] theorem clocked_surface (s : State) : s.clocked.surface = s.surface := by rw [clocked_eq]
@[simp] theorem clocked_arbiter (s : State) : s.clocked.arbiter = s.arbiter := by rw [clocked_eq]
@[simp] theorem clocked_engine (s : State) : s.clocked.engine = s.engine := by rw [clocked_eq]
@[simp] theorem clocked_geometry (s : State) : s.clocked.geometry = s.geometry := by rw [State.geometry, clocked_straps]; rfl

@[simp] theorem clocked_palette (s : State) : s.clocked.output.palette = s.output.palette := by
  unfold State.clocked State.reach
  split <;> rfl

@[simp] theorem clocked_lineCounter (s : State) : s.clocked.link.lineCounter = s.link.lineCounter := by
  unfold State.clocked State.reach
  split <;> rfl

@[simp] theorem clocked_frameNumber (s : State) : s.clocked.link.frameNumber = s.link.frameNumber := by
  unfold State.clocked State.reach
  split <;> rfl

@[simp] theorem clocked_synced (s : State) : s.clocked.link.synced = s.link.synced := by
  unfold State.clocked State.reach
  split <;> rfl

@[simp] theorem clocked_edgeSeen (s : State) : s.clocked.link.edgeSeen = false := rfl

@[simp] theorem clocked_silenceCount (s : State) : s.clocked.link.silenceCount = 0 := rfl

@[simp] theorem clocked_pixelTime (s : State) : s.clocked.link.pixelTime = max 4 s.link.pixelTime := reach_pixelTime s decisionPoint

@[simp] theorem clocked_silencePixels (s : State) : s.clocked.link.silencePixels = max 4 s.link.pixelTime :=
  reach_pixelTime s decisionPoint

/-- A running line timer counts from the leading edge of the mark just taken (R30). -/
theorem clocked_timer (s : State) :
    s.clocked.link.lineTimer = if s.clocked.member.own.drives then some s.clocked.link.pixelTime else none := rfl

/-! ### A line mark (R33) -/

/-- The state of a line mark before its line opens: the clocks set, and a detach pending taken (R30, R32, R64). -/
def State.lineMarked (s : State) : State := s.clocked.consumeFlags .line

theorem lineMarked_ownChange (s : State) : s.clocked.OwnChange s.lineMarked := consumeFlags_ownChange ..

theorem lineMarked_detaches {s : State} (h : s.member.detachPending = true ∧ s.member.own = .member) :
    s.lineMarked = s.clocked.changeState .detached := by
  rw [State.lineMarked, consumeFlags_line, clocked_member, if_pos h]

theorem lineMarked_stays {s : State} (h : ¬(s.member.detachPending = true ∧ s.member.own = .member)) :
    s.lineMarked = s.clocked := by
  rw [State.lineMarked, consumeFlags_line, clocked_member, if_neg h]

/-- A detach pending takes effect at the mark (R64). -/
theorem lineMarked_detaching {s : State} (h : s.member.detachPending = true ∧ s.member.own = .member) :
    s.lineMarked.member = { s.member with
      own := .detached, listenCount := 0, windowWait := 0, admitted := false, detachPending := false
      announce := s.lineMarked.member.announce } ∧
    s.lineMarked.port.events.state = oneMore s.port.events.state ∧ s.lineMarked.link.lmark = none := by
  rw [lineMarked_detaches h, changeState_member, changeState_port, changeState_link_silent _ _ rfl, clocked_member, clocked_port]
  exact ⟨rfl, saturate_oneMore _, rfl⟩

/-- Without one, the own state is as it was. -/
theorem lineMarked_staying {s : State} (h : ¬(s.member.detachPending = true ∧ s.member.own = .member)) :
    s.lineMarked.member = s.member ∧ s.lineMarked.port.events.state = s.port.events.state := by
  rw [lineMarked_stays h, clocked_member, clocked_port]
  exact ⟨rfl, rfl⟩

/-- A line mark at the decision point of a synced station opens the next line. -/
theorem takeLineMark_synced {s : State} (h : s.link.synced = true) :
    (s.reach decisionPoint).takeLineMark = s.lineMarked.advanceLine := by
  refine if_pos ?_
  rw [← h]
  exact clocked_synced s

/-- A line mark at the decision point of an unsynced station opens none (R35). -/
theorem takeLineMark_unsynced {s : State} (h : s.link.synced = false) :
    (s.reach decisionPoint).takeLineMark = s.lineMarked := by
  refine if_neg fun hs => ?_
  have : s.link.synced = true := (clocked_synced s).symm.trans hs
  rw [h] at this
  cases this

/-- The counter at T − 1 brings SLIP and a line treated as blank (R33). -/
theorem advanceLine_last {s : State} (h : s.geometry.totalLines ≤ s.link.lineCounter + 1) : s.advanceLine = s.raise .slip :=
  if_pos h

/-- A line below A is active (R33). -/
theorem advanceLine_active {s : State} (h : ¬s.geometry.totalLines ≤ s.link.lineCounter + 1)
    (ha : s.link.lineCounter + 1 < s.geometry.activeLines) :
    s.advanceLine =
      ({ s with link := { s.link with lineCounter := s.link.lineCounter + 1 } }).openActiveLine (s.link.lineCounter + 1) := by
  unfold State.advanceLine
  rw [if_neg h]
  exact if_pos ha

/-- Line A holds the announce window (R28, R33). -/
theorem advanceLine_window {s : State} (h : ¬s.geometry.totalLines ≤ s.link.lineCounter + 1)
    (ha : s.link.lineCounter + 1 = s.geometry.activeLines) :
    s.advanceLine = { s with
      link := { s.link with lineCounter := s.link.lineCounter + 1 }
      member := { s.member with announce := some (.opened (s.member.own == .listen)) } } := by
  unfold State.advanceLine
  rw [if_neg h]
  exact (if_neg ha.not_lt).trans (if_pos ha)

/-- A line above A is blank (R33). -/
theorem advanceLine_blank {s : State} (h : ¬s.geometry.totalLines ≤ s.link.lineCounter + 1)
    (ha : s.geometry.activeLines < s.link.lineCounter + 1) :
    s.advanceLine = { s with link := { s.link with lineCounter := s.link.lineCounter + 1 } } := by
  unfold State.advanceLine
  rw [if_neg h]
  exact (if_neg ha.not_gt).trans (if_neg ha.ne')

/-- What opening a line leaves as it was. -/
theorem advanceLine_frame (s : State) : s.MarkFrame s.advanceLine ∧ s.advanceLine.member.own = s.member.own ∧
    s.advanceLine.port.events.state = s.port.events.state ∧ s.advanceLine.link.lmark = s.link.lmark ∧
    s.advanceLine.member = { s.member with announce := s.advanceLine.member.announce } := by
  by_cases h : s.geometry.totalLines ≤ s.link.lineCounter + 1
  · rw [advanceLine_last h]
    exact ⟨{ State.OwnChange.refl s with }, rfl, rfl, rfl, rfl⟩
  · obtain ha | ha | ha := Nat.lt_trichotomy (s.link.lineCounter + 1) s.geometry.activeLines
    · rw [advanceLine_active h ha, openActiveLine_eq]
      exact ⟨{ State.OwnChange.refl s with }, rfl, rfl, rfl, rfl⟩
    · rw [advanceLine_window h ha]
      exact ⟨{ State.OwnChange.refl s with }, rfl, rfl, rfl, rfl⟩
    · rw [advanceLine_blank h ha]
      exact ⟨{ State.OwnChange.refl s with }, rfl, rfl, rfl, rfl⟩

/-- Any line but the one after T − 1 counts on, without SLIP (R33). -/
theorem advanceLine_counts {s : State} (h : ¬s.geometry.totalLines ≤ s.link.lineCounter + 1) :
    s.advanceLine.link.lineCounter = s.link.lineCounter + 1 ∧ s.advanceLine.port.events.slip = s.port.events.slip := by
  obtain ha | ha | ha := Nat.lt_trichotomy (s.link.lineCounter + 1) s.geometry.activeLines
  · rw [advanceLine_active h ha]
    exact ⟨rfl, rfl⟩
  · rw [advanceLine_window h ha]
    exact ⟨rfl, rfl⟩
  · rw [advanceLine_blank h ha]
    exact ⟨rfl, rfl⟩

/-- Only line A opens an announce window (R33). -/
theorem advanceLine_announce (s : State) :
    s.advanceLine.member.announce =
      if ¬s.geometry.totalLines ≤ s.link.lineCounter + 1 ∧ s.link.lineCounter + 1 = s.geometry.activeLines then
        some (.opened (s.member.own == .listen))
      else s.member.announce := by
  by_cases h : s.geometry.totalLines ≤ s.link.lineCounter + 1
  · rw [advanceLine_last h, if_neg fun hn => hn.1 h]
    rfl
  · obtain ha | ha | ha := Nat.lt_trichotomy (s.link.lineCounter + 1) s.geometry.activeLines
    · rw [advanceLine_active h ha, if_neg fun hn => ha.ne hn.2]
      rfl
    · rw [advanceLine_window h ha, if_pos ⟨h, ha⟩]
    · rw [advanceLine_blank h ha, if_neg fun hn => ha.ne' hn.2]

/-- A table gives a line the same records whatever else a state holds. -/
theorem selected_of_table {s t : State} (h : t.table = s.table) (L : Nat) : t.selected L = s.selected L := by
  rw [State.selected, h]
  rfl

/-- What the Claim Unit and the line buffer hold as an active line opens (R18 … R21, R70). -/
theorem advanceLine_opens {s : State} (h : ¬s.geometry.totalLines ≤ s.link.lineCounter + 1)
    (ha : s.link.lineCounter + 1 < s.geometry.activeLines) :
    s.advanceLine.claim = { s.claim with
      candidates := (s.selected (s.link.lineCounter + 1)).take 16, window := some 0, grants := [], ownGrants := []
      current := (((s.selected (s.link.lineCounter + 1)).drop 16).map Candidate.object).foldl
        (Shortfall.deny (s.link.lineCounter + 1) true) s.claim.current } ∧
    s.advanceLine.lines.buffer = [] := by
  rw [advanceLine_active h ha, openActiveLine_eq]
  exact ⟨rfl, rfl⟩

theorem exec_lineMark {s : State} (h : s.resetPin = false) : exec .lineMark s = .next (s.takeMark .line) :=
  happening_of (f := fun s => s.takeMark .line) h rfl

theorem exec_frameMark {s : State} (h : s.resetPin = false) : exec .frameMark s = .next (s.takeMark .frame) :=
  happening_of (f := fun s => s.takeMark .frame) h rfl

/-- Settles O22: the line mark takes a detach pending, and then opens the line of its counter. -/
theorem lineMarkAdvancesTheCounter : Obligations.LineMarkAdvancesTheCounter := by
  unfold Obligations.LineMarkAdvancesTheCounter
  refine ⟨fun s hp he hf => ?_, fun s hp he hl hd hs => ?_⟩
  · rw [exec_lineMark hp, exec_frameMark hp, takeMark_own_frame he hf, takeMark_frame he]
  · intro last detaches
    have hv := lineMarked_ownChange s
    obtain ⟨hframe, hown, hstate, hlmark, hmember⟩ := advanceLine_frame s.lineMarked
    have hall := hv.toMarkFrame.trans hframe
    have htime := hall.pixelTime.trans (clocked_pixelTime s)
    have hclaim : s.lineMarked.claim = s.claim := hv.claim.trans (clocked_claim s)
    have hlines : s.lineMarked.lines = s.lines := hv.lines.trans (clocked_lines s)
    have hcounter : s.lineMarked.link.lineCounter = s.link.lineCounter := hv.lineCounter.trans (clocked_lineCounter s)
    have hslip : s.lineMarked.port.events.slip = s.port.events.slip := hv.slip.trans (by rw [clocked_port])
    have hgeometry : s.lineMarked.geometry = s.geometry := by rw [State.geometry, hv.straps, clocked_straps]; rfl
    have hlast : s.lineMarked.geometry.totalLines ≤ s.lineMarked.link.lineCounter + 1 ↔ last := by rw [hgeometry, hcounter]
    have hselected := selected_of_table (hv.table.trans (clocked_table s))
    refine ⟨s.lineMarked.advanceLine, ?_, fun h => ?_, fun h => ?_, hall.frameNumber.trans (clocked_frameNumber s),
      hall.synced.trans ((clocked_synced s).trans hs), hall.silenceCount, hall.silencePixels.trans (clocked_silencePixels s),
      hall.edgeSeen, htime, htime ▸ hall.timer (clocked_timer s), fun h => ?_, fun h => ?_, fun h => ?_, fun h => ?_,
      fun h ha => ?_, fun h ha => ?_, fun h ha => ?_, hall.last.trans (by rw [clocked_claim]),
      hall.members.trans (by rw [clocked_member]), hall.table.trans (clocked_table s), hall.tints.trans (clocked_tints s),
      hall.palette.trans (clocked_palette s), hall.collisions.trans (clocked_collisions s), hall.picks.trans (clocked_picks s),
      hall.surface.trans (clocked_surface s), hall.arbiter.trans (clocked_arbiter s), hall.engine.trans (clocked_engine s),
      hall.straps.trans (clocked_straps s), hall.commands.trans (by rw [clocked_port]),
      hall.responses.trans (by rw [clocked_port]), hall.transfer.trans (by rw [clocked_port])⟩
    · rw [exec_lineMark hp, takeMark_line he hl hd, takeLineMark_synced hs]
    · rw [advanceLine_last (hlast.2 h)]
      exact ⟨hcounter, (saturate_oneMore _).trans (congrArg oneMore hslip), hclaim, hlines⟩
    · obtain ⟨hcounts, hnoSlip⟩ := advanceLine_counts (mt hlast.1 h)
      exact ⟨hcounts.trans (congrArg (· + 1) hcounter), hnoSlip.trans hslip⟩
    · obtain ⟨hdetached, hraised, hreleased⟩ := lineMarked_detaching h
      exact ⟨hown.trans (congrArg Membership.own hdetached), hstate.trans hraised, hlmark.trans hreleased⟩
    · obtain ⟨hsame, hquiet⟩ := lineMarked_staying h
      exact ⟨hown.trans (congrArg Membership.own hsame), hstate.trans hquiet⟩
    · rw [hmember, (lineMarked_detaching h).1]
    · rw [hmember, advanceLine_announce, (lineMarked_staying h).1, hgeometry, hcounter]
      rfl
    · obtain ⟨hopened, hbuffer⟩ := advanceLine_opens (mt hlast.1 h) (by rwa [hgeometry, hcounter])
      rw [hopened, hcounter, hselected, hclaim]
      exact ⟨rfl, rfl, rfl, hbuffer, rfl, rfl⟩
    · rw [advanceLine_window (mt hlast.1 h) (by rwa [hgeometry, hcounter])]
      exact ⟨rfl, hclaim, hlines⟩
    · rw [advanceLine_blank (mt hlast.1 h) (by rwa [hgeometry, hcounter])]
      exact ⟨hclaim, hlines⟩

/-- A happening whose effect changes nothing. -/
theorem happening_same {s : State} {enabled : Bool} {f : State → State} (h : f s = s) : s.happening enabled f = .next s := by
  simp [State.happening, h]

/-- Settles O56: no line opens at an unsynced station, and every row of a line it holds finds its condition failing. -/
theorem unsyncedStationTakesNoPart : Obligations.UnsyncedStationTakesNoPart := by
  unfold Obligations.UnsyncedStationTakesNoPart
  refine ⟨fun s hp he hl hd hs => ?_, fun s hs => ?_⟩
  · have hv := lineMarked_ownChange s
    have htime := hv.pixelTime.trans (clocked_pixelTime s)
    refine ⟨s.lineMarked, ?_, hv.lineCounter.trans (clocked_lineCounter s), hv.frameNumber.trans (clocked_frameNumber s),
      hv.synced.trans ((clocked_synced s).trans hs), hv.silenceCount, hv.silencePixels.trans (clocked_silencePixels s),
      hv.edgeSeen, lineMarked_staying, fun hpending hmember => ?_, htime ▸ hv.timer (clocked_timer s),
      hv.slip.trans (by rw [clocked_port]), hv.claim.trans (clocked_claim s), hv.lines.trans (clocked_lines s),
      hv.table.trans (clocked_table s), hv.tints.trans (clocked_tints s), hv.palette.trans (clocked_palette s),
      hv.collisions.trans (clocked_collisions s), hv.picks.trans (clocked_picks s), hv.surface.trans (clocked_surface s),
      hv.arbiter.trans (clocked_arbiter s), hv.engine.trans (clocked_engine s), hv.members.trans (by rw [clocked_member])⟩
    · rw [exec_lineMark hp, takeMark_line he hl hd, takeLineMark_unsynced hs]
    · obtain ⟨hdetached, hraised, -⟩ := lineMarked_detaching ⟨hpending, hmember⟩
      exact ⟨hdetached, hraised⟩
  · have hoff : ∀ holds : Bool, (s.link.synced && holds) = false := fun holds => by rw [hs, Bool.false_and]
    have hcolumn : s.columnDue = false := by simp only [State.columnDue, hs, Bool.false_and]
    refine ⟨fun others => ⟨happening_off (f := fun s => s.frameWordEnds others) (hoff _),
        happening_off (f := fun s => s.announcePlaceEnds others) (hoff _)⟩,
      fun rivals held join => happening_off (f := fun s => s.columnResolved rivals held join) hcolumn,
      happening_off hs, fun hsound => ?_⟩
    obtain ⟨hwindow, hfetch, -, -⟩ := hsound.unsynced hs
    have hserved : s.mayServe .fetch = false :=
      Bool.eq_false_iff.2 fun h => Bool.false_ne_true (hfetch.symm.trans (presents_of_mayServe h))
    have hround : ∀ bids held, s.claimRoundEnds bids held = s := fun bids held => by simp only [State.claimRoundEnds, hwindow]
    exact ⟨accessing_off hserved, fun bids held => happening_same (f := fun s => s.claimRoundEnds bids held) (hround bids held)⟩

end Sys2Proof.Machine
end

section
/-! SUPPORT. A frame mark, part by part: the counters, the own state, the updates, the records, the engine and line 0. -/

namespace Sys2Proof.Machine

/-! ### The counters (R34) -/

/-- A frame mark at another line than T − 1 slips, where the station is synced (R34). -/
def State.slips (s : State) : Prop := s.link.synced = true ∧ s.link.lineCounter + 1 ≠ s.geometry.totalLines

/-- Counting a frame changes three fields of the Link Timing Unit and no event but SLIP. -/
theorem frameCount_eq (s : State) :
    s.frameCount = { s with
      port := { s.port with events := { s.port.events with slip := s.frameCount.port.events.slip } }
      link := { s.link with lineCounter := 0, frameNumber := s.link.frameNumber + 1, synced := true } } := by
  unfold State.frameCount
  split <;> rfl

theorem frameCount_slip {s : State} (h : s.slips) : s.frameCount.port.events.slip = oneMore s.port.events.slip := by
  obtain ⟨hsynced, hline⟩ := h
  have hc : (s.link.synced && s.link.lineCounter + 1 != s.geometry.totalLines) = true :=
    Bool.and_eq_true_iff.2 ⟨hsynced, bne_iff_ne.2 hline⟩
  simp only [State.frameCount, hc, if_true]
  exact saturate_oneMore _

theorem frameCount_noSlip {s : State} (h : ¬s.slips) : s.frameCount.port.events.slip = s.port.events.slip := by
  have hc : ¬(s.link.synced && s.link.lineCounter + 1 != s.geometry.totalLines) = true := fun hc => by
    obtain ⟨hsynced, hline⟩ := Bool.and_eq_true_iff.1 hc
    exact h ⟨hsynced, bne_iff_ne.1 hline⟩
  simp only [State.frameCount, hc]
  rfl

/-! ### The shortfall records (R83) -/

/-- The turn-over changes the two records and no event but SHORTFALL. -/
theorem turnOver_eq (s : State) :
    s.turnOver = { s with
      port := { s.port with events := { s.port.events with shortfall := s.turnOver.port.events.shortfall } }
      claim := { s.claim with last := s.claim.current, current := .cleared s.link.frameNumber } } := by
  unfold State.turnOver
  split <;> rfl

theorem turnOver_denied {s : State} (h : 1 ≤ s.claim.current.denied) :
    s.turnOver.port.events.shortfall = oneMore s.port.events.shortfall := by
  simp only [State.turnOver, h, if_true]
  exact saturate_oneMore _

theorem turnOver_notDenied {s : State} (h : s.claim.current.denied = 0) :
    s.turnOver.port.events.shortfall = s.port.events.shortfall := by
  simp only [State.turnOver, h]
  rfl

/-! ### The engine (R144, R146) -/

/-- The start of a WAITING command changes only the engine and the Response Queue. -/
theorem engineStart_eq (s : State) :
    s.engineStart = { s with
      port := { s.port with responses := s.engineStart.port.responses }, engine := s.engineStart.engine } := by
  unfold State.engineStart
  split
  · split
    · rw [engineLoad_eq]
      rfl
    · rfl
  · rfl
  · rfl
  · rfl

/-- An engine that does not wait is not touched. -/
theorem engineStart_stays {s : State} (h : ∀ e, s.engine.mode ≠ .waiting e) : s.engineStart = s := by
  unfold State.engineStart
  split
  · rename_i e he
    exact absurd he (h e)
  · rfl
  · rfl
  · rfl

/-- A WAITING command that presents an access runs. -/
theorem engineStart_runs {s : State} {e : DrawEntry} (h : s.engine.mode = .waiting e) (hn : presentsNothing e.cmd = false) :
    s.engineStart = { s with engine := { s.engine with mode := .running e .none } } := by
  simp only [State.engineStart, h, hn]
  rfl

/-- One that presents none ends at once, with those behind it that end as soon as they are taken. -/
theorem engineStart_ends {s : State} {e : DrawEntry} {skipped tail : List DrawEntry} (h : s.engine.mode = .waiting e)
    (hn : presentsNothing e.cmd = true) (hq : s.engine.queue = skipped ++ tail) (hs : SkipsTo skipped tail) :
    s.engineStart =
      ({ s with port := { s.port with responses := s.port.responses ++ [e.endedResponse] } }).takesNext skipped tail := by
  simp only [State.engineStart, h, hn, if_true, hq, engineLoad_skips hs]
  rfl

/-! ### The mark -/

/-- The state of a frame mark once its clocks and counters are set and its own state changed (R34, R55, R58, R64). -/
def State.frameCounted (s : State) : State := s.clocked.frameCount.frameMembership s.link.synced

/-- That state once the updates are applied and the records turned over, before the engine and line 0 (R12, R83). -/
def State.frameMarked (s : State) : State := s.frameCounted.applyUpdates.turnOver

theorem takeFrameMark_eq (s : State) :
    (s.reach decisionPoint).takeFrameMark = s.frameMarked.engineStart.openActiveLine 0 := by
  have hsynced : (s.reach decisionPoint).link.synced = s.link.synced := clocked_synced s
  simp only [State.takeFrameMark, hsynced]
  rfl

theorem frameCounted_ownChange (s : State) : s.clocked.frameCount.OwnChange s.frameCounted := frameMembership_ownChange ..

/-- What the clocks, the counters and the own state leave as it was. -/
theorem frameCounted_kept (s : State) :
    s.frameCounted.straps = s.straps ∧ s.frameCounted.table = s.table ∧ s.frameCounted.tints = s.tints ∧
    s.frameCounted.output.palette = s.output.palette ∧ s.frameCounted.collisions = s.collisions ∧
    s.frameCounted.picks = s.picks ∧ s.frameCounted.surface = s.surface ∧ s.frameCounted.arbiter = s.arbiter ∧
    s.frameCounted.engine = s.engine ∧ s.frameCounted.claim = s.claim ∧
    s.frameCounted.member.members = s.member.members ∧ s.frameCounted.port.commands = s.port.commands ∧
    s.frameCounted.port.responses = s.port.responses ∧ s.frameCounted.port.transfer = s.port.transfer ∧
    s.frameCounted.port.events.shortfall = s.port.events.shortfall := by
  have hv := frameCounted_ownChange s
  rw [hv.straps, hv.table, hv.tints, hv.palette, hv.collisions, hv.picks, hv.surface, hv.arbiter, hv.engine, hv.claim,
    hv.members, hv.commands, hv.responses, hv.transfer, hv.shortfall, frameCount_eq]
  simp

/-- The Link Timing Unit of a frame mark (R24, R30, R32, R34). -/
theorem frameCounted_link (s : State) :
    s.frameCounted.link.lineCounter = 0 ∧ s.frameCounted.link.frameNumber = s.link.frameNumber + 1 ∧
    s.frameCounted.link.synced = true ∧ s.frameCounted.link.silenceCount = 0 ∧
    s.frameCounted.link.silencePixels = max 4 s.link.pixelTime ∧ s.frameCounted.link.edgeSeen = false ∧
    s.frameCounted.link.pixelTime = max 4 s.link.pixelTime := by
  have hv := frameCounted_ownChange s
  rw [hv.lineCounter, hv.frameNumber, hv.synced, hv.silenceCount, hv.silencePixels, hv.edgeSeen, hv.pixelTime, frameCount_eq]
  simp

/-- The line timer keeps to the own state, as the mark leaves it (R30). -/
theorem frameCounted_timer (s : State) :
    s.frameCounted.link.lineTimer = if s.frameCounted.member.own.drives then some s.frameCounted.link.pixelTime else none :=
  (frameCounted_ownChange s).timer (by rw [frameCount_eq]; exact clocked_timer s)

/-- The clocks of a mark do not decide whether it slips. -/
theorem clocked_slips (s : State) : s.clocked.slips ↔ s.slips := by
  simp only [State.slips, clocked_synced, clocked_lineCounter, clocked_geometry]

theorem frameCounted_slip (s : State) :
    (s.slips → s.frameCounted.port.events.slip = oneMore s.port.events.slip) ∧
    (¬s.slips → s.frameCounted.port.events.slip = s.port.events.slip) := by
  have hport := clocked_port s
  rw [(frameCounted_ownChange s).slip, ← clocked_slips, ← hport]
  exact ⟨frameCount_slip, frameCount_noSlip⟩

/-- What the updates and the records make of it: the table, the records of the Claim Unit and one event. -/
theorem frameMarked_eq (s : State) :
    s.frameMarked = { s.frameCounted with
      port := { s.frameCounted.port with events :=
        { s.frameCounted.port.events with shortfall := s.frameMarked.port.events.shortfall } }
      table := { objects := s.table.updates.foldl applyUpdate s.table.objects, updates := [] }
      claim := { s.claim with last := s.claim.current, current := .cleared (s.link.frameNumber + 1) } } := by
  obtain ⟨-, htable, -, -, -, -, -, -, -, hclaim, -⟩ := frameCounted_kept s
  obtain ⟨-, hframe, -⟩ := frameCounted_link s
  rw [← htable, ← hclaim, ← hframe]
  exact turnOver_eq s.frameCounted.applyUpdates

theorem frameMarked_shortfall (s : State) :
    (1 ≤ s.claim.current.denied → s.frameMarked.port.events.shortfall = oneMore s.port.events.shortfall) ∧
    (s.claim.current.denied = 0 → s.frameMarked.port.events.shortfall = s.port.events.shortfall) := by
  obtain ⟨-, -, -, -, -, -, -, -, -, hclaim, -, -, -, -, hshortfall⟩ := frameCounted_kept s
  rw [← hclaim, ← hshortfall]
  exact ⟨turnOver_denied (s := s.frameCounted.applyUpdates), turnOver_notDenied (s := s.frameCounted.applyUpdates)⟩

/-- The engine and the Response Queue as a frame mark finds them. -/
theorem frameMarked_engine (s : State) :
    s.frameMarked.engine = s.engine ∧ s.frameMarked.port.responses = s.port.responses := by
  obtain ⟨-, -, -, -, -, -, -, -, hengine, -, -, -, hresponses, -⟩ := frameCounted_kept s
  rw [frameMarked_eq]
  exact ⟨hengine, hresponses⟩

/-- A frame mark, whole: beside what the state of its counters holds, the table, the Claim Unit, the line buffer, the engine and
the Response Queue. -/
theorem takeFrameMark_whole (s : State) :
    (s.reach decisionPoint).takeFrameMark = { s.frameCounted with
      port := { s.frameCounted.port with
        responses := s.frameMarked.engineStart.port.responses
        events := { s.frameCounted.port.events with shortfall := s.frameMarked.port.events.shortfall } }
      table := { objects := s.table.updates.foldl applyUpdate s.table.objects, updates := [] }
      claim := { s.claim with
        candidates := (s.frameMarked.selected 0).take 16, window := some 0, grants := [], ownGrants := []
        last := s.claim.current
        current := (((s.frameMarked.selected 0).drop 16).map Candidate.object).foldl (Shortfall.deny 0 true)
          (.cleared (s.link.frameNumber + 1)) }
      lines := { s.frameCounted.lines with buffer := [], fetching := false, column := none }
      engine := s.frameMarked.engineStart.engine } := by
  have hselected : s.frameMarked.engineStart.selected 0 = s.frameMarked.selected 0 :=
    selected_of_table (by rw [engineStart_eq]) 0
  rw [takeFrameMark_eq, openActiveLine_eq, hselected, engineStart_eq, frameMarked_eq]
  rfl

/-- Settles O23: the parts of the mark in their order; the engine's start is the only one that touches the engine. -/
theorem frameMarkOpensLineZero : Obligations.FrameMarkOpensLineZero := by
  unfold Obligations.FrameMarkOpensLineZero
  refine ⟨fun s hp he => ?_, fun s hp he => ?_⟩
  · intro updated selected slips
    obtain ⟨hstraps, -, htints, hpalette, hcollisions, hpicks, hsurface, -, -, -, hmembers, hcommands, -, htransfer, -⟩ :=
      frameCounted_kept s
    obtain ⟨hline, hframe, hsynced, hsilence, hsilent, hedge, htime⟩ := frameCounted_link s
    obtain ⟨hslip, hnoSlip⟩ := frameCounted_slip s
    obtain ⟨hdenied, hnotDenied⟩ := frameMarked_shortfall s
    have htable : s.frameMarked.table.objects = updated := by rw [frameMarked_eq]
    have hselected : s.frameMarked.selected 0 = selected := by rw [State.selected, htable]
    refine ⟨_, (exec_frameMark hp).trans (congrArg Host.Outcome.next (takeMark_frame he)), ?_⟩
    rw [takeFrameMark_whole, hselected]
    exact ⟨hline, hframe, hsynced, hsilence, hsilent, hedge, htime, htime ▸ frameCounted_timer s, hslip, hnoSlip, rfl, rfl, rfl,
      rfl, rfl, rfl, rfl, rfl, hdenied, hnotDenied, hmembers, htints, hpalette, hcollisions, hpicks, hsurface, hstraps, hcommands,
      htransfer⟩
  · obtain ⟨-, -, -, -, -, -, hsurface, harbiter, -⟩ := frameCounted_kept s
    obtain ⟨hengine, hresponses⟩ := frameMarked_engine s
    refine ⟨_, (exec_frameMark hp).trans (congrArg Host.Outcome.next (takeMark_frame he)), ?_⟩
    rw [takeFrameMark_whole, ← hengine, ← hresponses]
    refine ⟨fun h => ?_, fun e h hn => ?_, fun e h hn hq => ?_, fun e skipped tail h hn hq hs => ?_, hsurface, harbiter⟩
    · rw [engineStart_stays h]
      exact ⟨rfl, rfl⟩
    · rw [engineStart_runs h hn]
      exact ⟨rfl, rfl⟩
    · rw [engineStart_ends (skipped := []) (tail := []) h hn hq ⟨nofun, nofun⟩]
      exact ⟨rfl, List.append_nil _⟩
    · rw [engineStart_ends h hn hq hs]
      exact ⟨rfl, List.append_assoc ..⟩

end Sys2Proof.Machine
end

section
/-! SUPPORT. The places named on the surface: what the invariant does not exclude. -/

namespace Sys2Proof.Machine

/-- A PLOT that DRAW ABORT has stopped, with a source byte standing in its progress. Only a COPY reads a source, and `runningSound`
does not ask that no other command holds one. -/
def stoppedPlotWithSource : State :=
  { State.reset with
    engine := {
      mode := .stopping ⟨0#8, .plot .set false false 0 0 0#8⟩ { done := 0, source := some 0#8, found := false, value := 0#8 } []
      queue := [] }
    pending := [.engineAccessServed] }

/-- The one pixel of the PLOT is left, and all else stands as after reset. -/
theorem stoppedPlotWithSource_placesSound : stoppedPlotWithSource.PlacesSound :=
  { reset_placesSound with queue := nofun, engine := by decide }

/-- The one access of the PLOT is served, and the engine does not see that it was the last: a stopped command goes on for as long
as its progress holds a source byte. -/
theorem step_stoppedPlotWithSource :
    ∃ t, step stoppedPlotWithSource = .next t ∧ t.engine.mode =
      .stopping ⟨0#8, .plot .set false false 0 0 0#8⟩ { done := 1, source := some 0#8, found := false, value := 0#8 } [] :=
  ⟨_, rfl, rfl⟩

/-- Refutes O60: the hypothesis lets a command other than COPY hold a source byte. The end of a stopped command (R155) waits for
that byte to go, so that the PLOT is left at the engine with no pixel to process. -/
theorem not_stepKeepsThePlacesSound : ¬ Obligations.StepKeepsThePlacesSound := by
  unfold Obligations.StepKeepsThePlacesSound
  intro h
  obtain ⟨t, ht, hsound⟩ := h _ stoppedPlotWithSource_placesSound
  obtain ⟨u, hu, hmode⟩ := step_stoppedPlotWithSource
  obtain rfl : u = t := Host.Outcome.next.inj (hu.symm.trans ht)
  have hengine := hsound.engine
  rw [hmode] at hengine
  exact absurd hengine (by decide)

end Sys2Proof.Machine
end

section
/-! SUPPORT. The Link Timing and Membership Units stay sound: under each named operation, each happening and each step. -/

namespace Sys2Proof.Machine

/-! ### What the invariant speaks of -/

/-- The parts of a station that the invariant of the two units speaks of. -/
structure LinkParts where
  straps : Straps
  running : Bool
  silenceCount : Nat
  lineCounter : Nat
  synced : Bool
  edgeSeen : Bool
  lmark : Option MarkKind
  ldata : Lines
  ldataJoin : Lines
  own : OwnState
  listenCount : Nat
  windowWait : Nat
  admitted : Bool
  detachPending : Bool
  members : List MemberEntry
  announce : Option AnnounceWindow
  window : Option Nat
  fetching : Bool
  column : Option Nat

/-- Those parts as the state holds them. -/
def State.linkParts (s : State) : LinkParts :=
  { straps := s.straps, running := s.link.lineTimer.isSome, silenceCount := s.link.silenceCount
    lineCounter := s.link.lineCounter, synced := s.link.synced, edgeSeen := s.link.edgeSeen, lmark := s.link.lmark
    ldata := s.link.ldata, ldataJoin := s.link.ldataJoin, own := s.member.own, listenCount := s.member.listenCount
    windowWait := s.member.windowWait, admitted := s.member.admitted, detachPending := s.member.detachPending
    members := s.member.members, announce := s.member.announce, window := s.claim.window, fetching := s.lines.fetching
    column := s.lines.column }

/-- A state with the same parts is as sound. -/
theorem State.LinkSound.of_parts {s t : State} (hs : s.LinkSound) (h : t.linkParts = s.linkParts) : t.LinkSound := by
  simp only [State.linkParts, LinkParts.mk.injEq] at h
  obtain ⟨hstraps, hrunning, hsilence, hcounter, hsynced, hedge, hlmark, hldata, hjoin, hown, hlisten, hwait, hadmitted, hdetach,
    hmembers, hannounce, hwindow, hfetching, hcolumn⟩ := h
  have hgeometry : t.geometry = s.geometry := by rw [State.geometry, hstraps]; rfl
  constructor <;>
    simp only [hgeometry, hrunning, hsilence, hcounter, hsynced, hedge, hlmark, hldata, hjoin, hown, hlisten, hwait, hadmitted,
      hdetach, hmembers, hannounce, hwindow, hfetching, hcolumn]
  exacts [hs.counter, hs.silence, hs.timer, hs.silent, hs.admitted, hs.detaching, hs.waits, hs.listens, hs.members, hs.missed,
    hs.place, hs.edge, hs.unsynced]

/-- A list of updates leaves the parts as they were where each one does. -/
theorem foldl_linkParts {α : Type} {f : State → α → State} (h : ∀ s a, (f s a).linkParts = s.linkParts) (l : List α) (s : State) :
    (l.foldl f s).linkParts = s.linkParts := by
  induction l generalizing s with
  | nil => rfl
  | cons a l ih => exact (ih _).trans (h s a)

/-- A flag that is clear is not set. -/
theorem absurd_true {b : Bool} {P : Prop} (h : b = false) (hb : b = true) : P := Bool.noConfusion (h.symm.trans hb)

/-- A flag that is set is not clear. -/
theorem absurd_false {b : Bool} {P : Prop} (h : b = true) (hb : b = false) : P := Bool.noConfusion (h.symm.trans hb)

/-- Every preset has a line to count (Table 2-1). -/
theorem totalLines_pos (s : State) : 0 < s.geometry.totalLines := by
  unfold State.geometry geometryOf
  split <;> decide

/-- A window that is held says that the station is synced and has no edge to decide. -/
theorem State.LinkSound.of_announce {s : State} (h : s.LinkSound) (ha : s.member.announce ≠ none) :
    s.link.synced = true ∧ s.link.edgeSeen = false := by
  refine ⟨Bool.not_eq_false _ ▸ fun hs => ?_, Bool.eq_false_iff.2 fun he => ?_⟩
  · obtain ⟨-, -, -, hannounce⟩ := h.unsynced hs
    exact ha hannounce
  · obtain ⟨-, -, hannounce⟩ := h.edge he
    exact ha hannounce

/-- So does a claim window that is open. -/
theorem State.LinkSound.of_window {s : State} (h : s.LinkSound) (hw : s.claim.window ≠ none) :
    s.link.synced = true ∧ s.link.edgeSeen = false := by
  refine ⟨Bool.not_eq_false _ ▸ fun hs => ?_, Bool.eq_false_iff.2 fun he => ?_⟩
  · exact hw (h.unsynced hs).1
  · exact hw (h.edge he).1

/-! ### Time, the lines and the own state -/

theorem passTime_linkSound {s : State} (h : s.LinkSound) (n : Nat) : (s.passTime n).LinkSound :=
  { h with
    silence := Nat.min_le_left _ _
    timer := Option.isSome_map.trans h.timer
    silent := fun hd => ⟨by rw [State.passTime_link_lmark, (h.silent hd).1]; rfl, rfl, rfl⟩ }

theorem reach_linkSound {s : State} (h : s.LinkSound) (p : Nat) : (s.reach p).LinkSound := by
  unfold State.reach
  split
  · exact passTime_linkSound h _
  · exact h

theorem tick_linkSound {s : State} (h : s.LinkSound) : s.tick.LinkSound := by
  unfold State.tick
  split
  · exact h
  · exact passTime_linkSound h 1

/-- A station in no driving state drives no line, whatever a field asks of it (R43). -/
theorem drive_linkSound {s : State} {w : Lines} (h : s.LinkSound) (hw : s.member.own.drives = false → w = released) :
    (s.drive w).LinkSound :=
  { h with silent := fun hd => ⟨(h.silent hd).1, hw hd, rfl⟩ }

theorem raise_linkSound {s : State} (h : s.LinkSound) (k : EventKind) : (s.raise k).LinkSound := h.of_parts rfl

/-- A change of the own state, whole: the Membership Unit, STATE, and the Link Timing Unit. -/
theorem changeState_eq (s : State) (new : OwnState) :
    s.changeState new = { s with
      port := { s.port with events := s.port.events.raise .state }
      link := (s.changeState new).link
      member := { s.member with
        own := new, listenCount := 0, windowWait := 0, admitted := false, detachPending := false,
        announce := s.member.announce.map (.entering new s.link.pixelTime) } } := by
  unfold State.changeState
  split <;> rfl

/-- What it does to the Link Timing Unit: the line timer, the mark, LDATA and the own frame assertion may change. -/
theorem changeState_link_frame (s : State) (new : OwnState) :
    let t := (s.changeState new).link
    t.silenceCount = s.link.silenceCount ∧ t.silencePixels = s.link.silencePixels ∧ t.lineCounter = s.link.lineCounter ∧
      t.frameNumber = s.link.frameNumber ∧ t.synced = s.link.synced ∧ t.pixelTime = s.link.pixelTime ∧
      t.edgeSeen = s.link.edgeSeen := by
  unfold State.changeState
  split <;> exact ⟨rfl, rfl, rfl, rfl, rfl, rfl, rfl⟩

/-- Whatever state the station enters, its timer, lines, counts and flags are as that state has them (R30, R43, R52, R55, R64). -/
theorem changeState_linkSound {s : State} (h : s.LinkSound) (new : OwnState) : (s.changeState new).LinkSound := by
  obtain ⟨hsilence, -, hcounter, -, hsynced, -, hedge⟩ := changeState_link_frame s new
  have htimer : (s.changeState new).link.lineTimer.isSome = new.drives := by
    cases hd : new.drives with
    | false => rw [changeState_link_silent s new hd]; rfl
    | true => rw [changeState_link_drives s new hd]; rfl
  rw [changeState_eq]
  exact { h with
    counter := hcounter.trans_lt h.counter
    silence := hsilence.trans_le h.silence
    timer := htimer
    silent := fun hd => by rw [changeState_link_silent s new hd]; exact ⟨rfl, rfl, rfl⟩
    admitted := nofun
    detaching := nofun
    waits := Nat.zero_lt_succ 2
    listens := Nat.zero_lt_succ 1
    place := fun w hw => by
      obtain ⟨v, hv, rfl⟩ := Option.mem_map.1 hw
      exact h.place v hv
    edge := fun he => by
      obtain ⟨hwindow, hfetching, hannounce⟩ := h.edge (hedge.symm.trans he)
      exact ⟨hwindow, hfetching, Option.map_eq_none_iff.2 hannounce⟩
    unsynced := fun hs => by
      obtain ⟨hwindow, hfetching, hcolumn, hannounce⟩ := h.unsynced (hsynced.symm.trans hs)
      exact ⟨hwindow, hfetching, hcolumn, Option.map_eq_none_iff.2 hannounce⟩ }

/-! ### Leading edges, and marks driven -/

/-- Once the line in hand has ended, nothing of it is held. -/
theorem endLine_empty (s : State) : s.endLine.claim.window = none ∧ s.endLine.lines.fetching = false ∧
    s.endLine.lines.column = none ∧ s.endLine.member.announce = none :=
  ⟨cutWindow_window s, rfl, rfl, rfl⟩

theorem endLine_linkSound {s : State} (h : s.LinkSound) : s.endLine.LinkSound := by
  have hcut := cutWindow_window s
  rw [endLine_eq]
  exact { h with
    place := nofun
    edge := fun _ => ⟨hcut, rfl, rfl⟩
    unsynced := fun _ => ⟨hcut, rfl, rfl, rfl⟩ }

theorem releaseMark_linkSound {s : State} (h : s.LinkSound) : s.releaseMark.LinkSound := by
  unfold State.releaseMark
  split
  · exact h
  · rename_i kind hkind
    have hreach := reach_linkSound h (markLength kind)
    exact { hreach with silent := fun hd => ⟨rfl, (hreach.silent hd).2⟩ }

theorem startLine_linkSound {s : State} (h : s.LinkSound) : s.startLine.LinkSound := by
  have hcut := cutWindow_window s
  have hend := endLine_linkSound h
  unfold State.startLine
  rw [endLine_eq] at hend ⊢
  exact { hend with
    silent := fun hd => ⟨(hend.silent hd).1, rfl, rfl⟩
    edge := fun _ => ⟨hcut, rfl, rfl⟩ }

theorem leadingEdge_linkSound {s : State} (h : s.LinkSound) : s.leadingEdge.LinkSound := by
  unfold State.leadingEdge
  split
  · exact h
  · exact startLine_linkSound (releaseMark_linkSound h)

/-- A leading edge touches the own state in no way. -/
theorem leadingEdge_own (s : State) : s.leadingEdge.member.own = s.member.own := by
  have hreach : ∀ p, (s.reach p).member.own = s.member.own := fun p => by
    obtain ⟨-, -, -, -, -, hmember, -⟩ := reach_frame s p
    rw [hmember]
  unfold State.leadingEdge
  split
  · rfl
  · rw [State.startLine, endLine_eq]
    unfold State.releaseMark
    split
    · rfl
    · exact hreach _

/-- Only a station in a driving state drives a mark (R30, R43). -/
theorem driveMark_linkSound {s : State} (h : s.LinkSound) (hd : s.member.own.drives = true) (kind : MarkKind) :
    (s.driveMark kind).LinkSound := by
  have hown : s.leadingEdge.member.own.drives = true := by rw [leadingEdge_own, hd]
  exact { leadingEdge_linkSound h with silent := absurd_false hown }

theorem timerRunsOut_linkSound {s : State} (h : s.LinkSound) : s.timerRunsOut.LinkSound := by
  unfold State.timerRunsOut
  split
  · exact h
  · rename_i t ht
    have hd : s.member.own.drives = true := by rw [← h.timer, ht]; rfl
    exact driveMark_linkSound (passTime_linkSound h _) hd _

/-- A station that founds the link is in FOUNDING with its timer running (R54). -/
theorem found_linkSound {s : State} (h : s.LinkSound) : s.found.LinkSound := by
  have hown : (s.changeState .founding).member.own = .founding := by rw [changeState_member]
  have hdriven := driveMark_linkSound (changeState_linkSound h .founding) (by rw [hown]; rfl) .frame
  have hfounding : ((s.changeState .founding).driveMark .frame).member.own = .founding := (leadingEdge_own _).trans hown
  exact { hdriven with timer := (congrArg OwnState.drives hfounding).symm }

theorem loseSync_linkSound {s : State} (h : s.LinkSound) : s.loseSync.LinkSound := by
  unfold State.loseSync
  split
  · exact { endLine_linkSound h with unsynced := fun _ => endLine_empty s }
  · exact h

theorem atSilenceLimit_linkSound {s : State} (h : s.LinkSound) : s.atSilenceLimit.LinkSound := by
  unfold State.atSilenceLimit
  split
  · split
    · exact found_linkSound (loseSync_linkSound h)
    · exact loseSync_linkSound h
  · exact h

theorem silenceReached_linkSound {s : State} (h : s.LinkSound) : s.silenceReached.LinkSound :=
  atSilenceLimit_linkSound { passTime_linkSound h s.silenceLeft with silence := le_rfl }

/-! ### Marks taken -/

theorem consumeFlags_linkSound {s : State} (h : s.LinkSound) (kind : MarkKind) : (s.consumeFlags kind).LinkSound := by
  unfold State.consumeFlags
  split
  · exact changeState_linkSound h _
  · split
    · exact changeState_linkSound h _
    · exact h

/-- The third window wait never stands: it sends the station to REFUSED (R55). -/
theorem frameMembership_linkSound {s : State} (h : s.LinkSound) (wasSynced : Bool) : (s.frameMembership wasSynced).LinkSound := by
  unfold State.frameMembership
  split
  · split
    · exact changeState_linkSound h _
    · rename_i hwait
      exact consumeFlags_linkSound (s := { s with member := { s.member with windowWait := s.member.windowWait + 1 } })
        { h with waits := not_le.1 hwait } _
  · exact consumeFlags_linkSound h _

/-- The clocks of a mark run as the own state has them (R30, R32). -/
theorem restartClocks_linkSound {s : State} (h : s.LinkSound) : s.restartClocks.LinkSound :=
  { h with
    silence := Nat.zero_le _
    timer := by rw [State.restartClocks_link_lineTimer, State.restartClocks_member]; cases s.member.own.drives <;> rfl
    edge := nofun }

/-- A line opens at a synced station, at the decision point of its mark (R18, R35). -/
theorem openActiveLine_linkSound {s : State} (h : s.LinkSound) (hs : s.link.synced = true) (he : s.link.edgeSeen = false)
    (L : Nat) : (s.openActiveLine L).LinkSound := by
  rw [openActiveLine_eq]
  exact { h with
    edge := absurd_true he
    unsynced := absurd_false hs }

/-- A line mark brings the counter to T − 1 at most (R33). -/
theorem advanceLine_linkSound {s : State} (h : s.LinkSound) (hs : s.link.synced = true) (he : s.link.edgeSeen = false) :
    s.advanceLine.LinkSound := by
  by_cases hlast : s.geometry.totalLines ≤ s.link.lineCounter + 1
  · rw [advanceLine_last hlast]
    exact raise_linkSound h _
  · have hcounted : ({ s with link := { s.link with lineCounter := s.link.lineCounter + 1 } } : State).LinkSound :=
      { h with counter := Nat.lt_of_not_le hlast }
    obtain ha | ha | ha := Nat.lt_trichotomy (s.link.lineCounter + 1) s.geometry.activeLines
    · rw [advanceLine_active hlast ha]
      exact openActiveLine_linkSound hcounted hs he _
    · rw [advanceLine_window hlast ha]
      exact { hcounted with
        place := fun w hw => by cases hw; exact Nat.zero_lt_succ 7
        edge := absurd_true he
        unsynced := absurd_false hs }
    · rw [advanceLine_blank hlast ha]
      exact hcounted

theorem takeLineMark_linkSound {s : State} (h : s.LinkSound) : s.takeLineMark.LinkSound := by
  have hmarked := consumeFlags_linkSound (restartClocks_linkSound h) .line
  have hframe := consumeFlags_ownChange s.restartClocks .line
  unfold State.takeLineMark
  split
  · rename_i hs
    exact advanceLine_linkSound hmarked (hframe.synced.trans hs) hframe.edgeSeen
  · exact hmarked

theorem frameCount_linkSound {s : State} (h : s.LinkSound) : s.frameCount.LinkSound := by
  rw [frameCount_eq]
  exact { h with counter := totalLines_pos s, unsynced := nofun }

theorem engineStart_linkParts (s : State) : s.engineStart.linkParts = s.linkParts := by rw [engineStart_eq]; rfl

theorem turnOver_linkParts (s : State) : s.turnOver.linkParts = s.linkParts := by rw [turnOver_eq]; rfl

/-- A frame mark makes the station synced, and its line 0 opens after the mark's own changes (R34, R70). -/
theorem takeFrameMark_linkSound {s : State} (h : s.LinkSound) : s.takeFrameMark.LinkSound := by
  have hcounted := frameMembership_linkSound (frameCount_linkSound (restartClocks_linkSound h)) s.link.synced
  have hframe := frameMembership_ownChange s.restartClocks.frameCount s.link.synced
  rw [frameCount_eq] at hframe
  have hparts : ∀ t : State, t.applyUpdates.turnOver.engineStart.linkParts = t.linkParts :=
    fun t => (engineStart_linkParts _).trans (turnOver_linkParts _)
  have hsame := hparts (s.restartClocks.frameCount.frameMembership s.link.synced)
  rw [frameCount_eq] at hsame hcounted
  unfold State.takeFrameMark
  rw [frameCount_eq]
  exact openActiveLine_linkSound (hcounted.of_parts hsame) ((congrArg LinkParts.synced hsame).trans hframe.synced)
    ((congrArg LinkParts.edgeSeen hsame).trans hframe.edgeSeen) 0

theorem takeMark_linkSound {s : State} (h : s.LinkSound) (seen : MarkKind) : (s.takeMark seen).LinkSound := by
  have hreach := reach_linkSound (leadingEdge_linkSound h) decisionPoint
  unfold State.takeMark
  simp only
  split
  · exact takeLineMark_linkSound hreach
  · exact takeFrameMark_linkSound hreach

/-! ### The announce window -/

/-- An event raised on a condition, whole. -/
theorem raise_ite (c : Prop) [Decidable c] (s : State) (k : EventKind) :
    (if c then s.raise k else s) = { s with
      port := { s.port with events := if c then s.port.events.raise k else s.port.events } } := by
  split <;> rfl

/-- What the station drives in the frame word (R36). -/
def State.frameWordDriven (s : State) : Lines := if s.member.own.drives then frameNumberWord s.link.frameNumber else released

/-- The value the frame word reads. -/
def State.frameWordRead (s : State) (others : Lines) : Byte := lowByte (others &&& s.frameWordDriven)

/-- The frame word, whole: SLIP, what is driven, the number adopted, and the window. -/
theorem readFrameWord_eq (s : State) (w : AnnounceWindow) (others : Lines) :
    s.readFrameWord w others = { s with
      port := { s.port with events :=
        if s.member.own.drives && s.frameWordRead others != s.link.frameNumber then s.port.events.raise .slip
        else s.port.events }
      link := { s.link with
        frameNumber := s.frameWordRead others, ldata := s.frameWordDriven, ldataJoin := released }
      member := { s.member with announce := some { w with wordRead := true } } } := by
  unfold State.readFrameWord
  simp only [raise_ite]
  rfl

theorem readFrameWord_linkSound {s : State} {w : AnnounceWindow} (h : s.LinkSound) (ha : s.member.announce = some w)
    (others : Lines) : (s.readFrameWord w others).LinkSound := by
  obtain ⟨hs, he⟩ := h.of_announce (by rw [ha]; nofun)
  rw [readFrameWord_eq]
  exact { h with
    silent := fun hd => ⟨(h.silent hd).1, if_neg (Bool.eq_false_iff.1 hd), rfl⟩
    place := fun v hv => by cases hv; exact h.place w ha
    edge := absurd_true he
    unsynced := absurd_false hs }

/-- The passing of time to a position leaves the Membership Unit and the claim window as they were. -/
theorem reach_member (s : State) (p : Nat) : (s.reach p).member = s.member := by
  obtain ⟨-, -, -, -, -, hmember, -⟩ := reach_frame s p
  exact hmember

theorem frameWordEnds_linkSound {s : State} (h : s.LinkSound) (others : Lines) : (s.frameWordEnds others).LinkSound := by
  unfold State.frameWordEnds
  split
  · exact h
  · rename_i w hw
    split
    · exact h
    · exact readFrameWord_linkSound (reach_linkSound h _) ((congrArg Membership.announce (reach_member s _)).trans hw) others

/-- An entry keeps its range: three places missed at most, and none where it is absent (R48, R50). -/
def MemberEntry.Sound (e : MemberEntry) : Prop := e.missed ≤ 3 ∧ (e.present = false → e.missed = 0)

theorem take_sound {e : MemberEntry} (h : e.Sound) (frame : Byte) (w : Lines) : (e.take frame w).Sound := by
  unfold MemberEntry.take
  split
  · exact ⟨Nat.zero_le 3, nofun⟩
  · unfold MemberEntry.miss
    split
    · exact h
    · rename_i hpresent
      split
      · rename_i hmissed
        exact ⟨hmissed, fun hn => absurd hn (by simpa using hpresent)⟩
      · exact ⟨Nat.zero_le 3, fun _ => rfl⟩

/-- The entry of place `n` as the place was read (R49, R50). -/
def State.entryTaken (s : State) (n : Nat) (w : Lines) : MemberEntry :=
  (s.member.members.getD n .absent).take s.link.frameNumber w

/-- A place taken, whole: its entry, and MEMBERS where the entry becomes present or absent. -/
theorem takePlace_eq (s : State) (n : Nat) (w : Lines) :
    s.takePlace n w = { s with
      port := { s.port with events :=
        if (s.member.members.getD n .absent).present != (s.entryTaken n w).present then s.port.events.raise .members
        else s.port.events }
      member := { s.member with members := s.member.members.set n (s.entryTaken n w) } } := by
  unfold State.takePlace
  simp only [raise_ite]
  rfl

theorem takePlace_linkSound {s : State} (h : s.LinkSound) (n : Nat) (w : Lines) : (s.takePlace n w).LinkSound := by
  have hold : (s.member.members.getD n .absent).Sound := by
    rw [List.getD_eq_getElem?_getD]
    cases he : s.member.members[n]? with
    | none => exact ⟨Nat.zero_le 3, fun _ => rfl⟩
    | some e => exact h.missed e (List.mem_of_getElem? he)
  rw [takePlace_eq]
  exact { h with
    members := List.length_set.trans h.members
    missed := fun e he => by
      obtain he | rfl := List.mem_or_eq_of_mem_set he
      · exact h.missed e he
      · exact take_sound hold _ _ }

/-- A clean readback admits a station in FOUNDING or JOINING, the driving states other than MEMBER (R58). -/
theorem readBackPlace_linkSound {s : State} (h : s.LinkSound) (hd : s.member.own.drives = true) (driven read : Lines) :
    (s.readBackPlace driven read).LinkSound := by
  unfold State.readBackPlace
  split
  · split
    · exact h
    · rename_i hmember
      refine { h with admitted := fun _ => ?_ }
      cases hown : s.member.own <;> simp_all [OwnState.drives, State.isMember]
  · exact changeState_linkSound h _

theorem completeWindow_linkSound {s : State} (h : s.LinkSound) (w : AnnounceWindow) : (s.completeWindow w).LinkSound := by
  have hended : ({ s with member := { s.member with announce := none, windowWait := 0 } } : State).LinkSound :=
    { h with
      waits := Nat.zero_lt_succ 2
      place := nofun
      edge := fun he => by
        obtain ⟨hwindow, hfetching, -⟩ := h.edge he
        exact ⟨hwindow, hfetching, rfl⟩
      unsynced := fun hs => by
        obtain ⟨hwindow, hfetching, hcolumn, -⟩ := h.unsynced hs
        exact ⟨hwindow, hfetching, hcolumn, rfl⟩ }
  unfold State.completeWindow
  simp only
  split
  · unfold State.countListen
    split
    · exact changeState_linkSound hended _
    · rename_i hfirst
      exact { hended with listens := not_le.1 hfirst }
  · split
    · unfold State.agreementTest
      split
      · exact changeState_linkSound hended _
      · exact hended
    · exact hended

theorem nextPlace_linkSound {s : State} (h : s.LinkSound) (ha : s.member.announce ≠ none) (w : AnnounceWindow) :
    (s.nextPlace w).LinkSound := by
  obtain ⟨hs, he⟩ := h.of_announce ha
  unfold State.nextPlace
  split
  · rename_i hplace
    exact { h with
      place := fun v hv => by cases hv; exact hplace
      edge := absurd_true he
      unsynced := absurd_false hs }
  · exact completeWindow_linkSound h w

/-- The readback of the own place keeps the window, as one still held. -/
theorem readBackPlace_announce {s : State} (h : s.member.announce ≠ none) (driven read : Lines) :
    (s.readBackPlace driven read).member.announce ≠ none := by
  unfold State.readBackPlace
  split
  · split
    · exact h
    · exact h
  · rw [changeState_member]
    exact mt Option.map_eq_none_iff.1 h

/-- A place the station does not drive: the Member Table takes it, and the window goes on or is complete. -/
theorem endPlace_other {s : State} {w : AnnounceWindow} (hd : s.drivesPlace w.place = false) (ha : s.member.announce = some w)
    (others : Lines) :
    s.endPlace w others = ((s.drive released).takePlace w.place others).nextPlace (w.after (placeHeard others)) := by
  have hread : others &&& released = others := BitVec.and_allOnes
  have hkept : ((s.drive released).takePlace w.place others).member.announce = some w := by rw [takePlace_eq]; exact ha
  simp only [State.endPlace, hd, Bool.false_eq_true, if_false, hread, hkept, Option.getD_some]

/-- What stands once the station's own place has been driven and the Member Table has taken it. -/
def State.ownPlaceTaken (s : State) (others : Lines) : State :=
  (s.drawNonce.drive s.announce).takePlace s.stationNumber (others &&& s.announce)

/-- The own place: driven with a fresh nonce, taken, and read back, and the window goes on or is complete. -/
theorem endPlace_own {s : State} {w : AnnounceWindow} (hd : s.member.own.drives = true) (hw : w.place = s.stationNumber)
    (others : Lines) :
    s.endPlace w others =
      let t := (s.ownPlaceTaken others).readBackPlace s.announce (others &&& s.announce)
      t.nextPlace ((t.member.announce.getD w).after (placeHeard (others &&& s.announce))) := by
  have hplace : s.drivesPlace w.place = true := Bool.and_eq_true_iff.2 ⟨hd, beq_iff_eq.2 hw⟩
  simp only [State.endPlace, hplace, if_true, State.ownPlaceTaken, ← hw]

theorem endPlace_linkSound {s : State} {w : AnnounceWindow} (h : s.LinkSound) (ha : s.member.announce = some w)
    (others : Lines) : (s.endPlace w others).LinkSound := by
  cases hplace : s.drivesPlace w.place with
  | false =>
    rw [endPlace_other hplace ha]
    refine nextPlace_linkSound (takePlace_linkSound (drive_linkSound h fun _ => rfl) _ _) ?_ _
    rw [takePlace_eq, State.drive_member, ha]
    nofun
  | true =>
    obtain ⟨hd, hw⟩ := Bool.and_eq_true_iff.1 hplace
    have htaken : (s.ownPlaceTaken others).LinkSound :=
      takePlace_linkSound (drive_linkSound (s := s.drawNonce) (h.of_parts rfl) (absurd_false hd)) _ _
    have hown : (s.ownPlaceTaken others).member.own.drives = true := by rw [State.ownPlaceTaken, takePlace_eq]; exact hd
    have hheld : (s.ownPlaceTaken others).member.announce ≠ none := by
      rw [State.ownPlaceTaken, takePlace_eq]
      exact ne_of_eq_of_ne ha nofun
    rw [endPlace_own hd (beq_iff_eq.1 hw)]
    exact nextPlace_linkSound (readBackPlace_linkSound htaken hown _ _) (readBackPlace_announce hheld _ _) _

theorem announcePlaceEnds_linkSound {s : State} (h : s.LinkSound) (others : Lines) : (s.announcePlaceEnds others).LinkSound := by
  unfold State.announcePlaceEnds
  split
  · exact h
  · rename_i w hw
    split
    · exact endPlace_linkSound (reach_linkSound h _) ((congrArg Membership.announce (reach_member s _)).trans hw) others
    · exact h

/-! ### The claim window -/

/-- The window closes at a synced station, past the decision point of its mark. -/
theorem closeWindow_linkSound {s : State} (h : s.LinkSound) (hw : s.claim.window ≠ none) : s.closeWindow.LinkSound := by
  obtain ⟨hs, he⟩ := h.of_window hw
  have hclosed : s.windowClosed.LinkSound :=
    { h with
      edge := absurd_true he
      unsynced := absurd_false hs }
  rw [closeWindow_eq]
  obtain ⟨-, g, rest, -, heq⟩ | ⟨-, heq⟩ := startFetch_cases s.windowClosed <;> rw [heq]
  · exact { hclosed with
      edge := absurd_true he
      unsynced := absurd_false hs }
  · exact hclosed

/-- The comparison of the bid keeps the window open, and may change the own state. -/
theorem compareBid_linkSound {s : State} (h : s.LinkSound) (r : Nat) (word : Lines) (stayed repeated : Bool) :
    (s.compareBid r word stayed repeated).LinkSound ∧
      (s.compareBid r word stayed repeated).claim.window = s.claim.window := by
  obtain heq | heq | ⟨-, c, heq⟩ := compareBid_cases s r word stayed repeated <;> rw [heq]
  · exact ⟨h, rfl⟩
  · refine ⟨changeState_linkSound h _, ?_⟩
    obtain ⟨-, -, -, -, hclaim, -⟩ := changeState_frame s .conflict
    rw [hclaim]
  · exact ⟨h.of_parts rfl, rfl⟩

theorem drivenRound_linkSound {s : State} (h : s.LinkSound) (hw : s.claim.window ≠ none) (r : Nat) (word : Lines)
    (stayed : Bool) : (s.drivenRound r word stayed).LinkSound := by
  cases hrep : s.pairGranted (claimStation word) (claimObject word) with
  | true =>
    obtain ⟨hcompared, hopen⟩ := compareBid_linkSound h r word stayed true
    rw [drivenRound_repeated hrep]
    exact closeWindow_linkSound hcompared (hopen ▸ hw)
  | false =>
    obtain ⟨hcompared, hopen⟩ := compareBid_linkSound h r word stayed false
    have hrecorded : ((s.compareBid r word stayed false).recordGrant r word).LinkSound := hcompared.of_parts rfl
    have hstill : ((s.compareBid r word stayed false).recordGrant r word).claim.window ≠ none := hopen ▸ hw
    obtain ⟨hs, he⟩ := hrecorded.of_window hstill
    rw [drivenRound_new hrep]
    split
    · exact closeWindow_linkSound hrecorded hstill
    · exact { hrecorded with
        edge := absurd_true he
        unsynced := absurd_false hs }

/-- Only a MEMBER bids (R71). -/
theorem bidWord_silent {s : State} (h : s.isMember = false) : s.bidWord = none := by
  simp [State.bidWord, State.bidder, h]

/-- A MEMBER is in a driving state (R41). -/
theorem isMember_of_silent {s : State} (h : s.member.own.drives = false) : s.isMember = false := by
  unfold State.isMember
  cases hown : s.member.own <;> rw [hown] at h
  case member => cases h
  all_goals rfl

theorem claimRoundEnds_linkSound {s : State} (h : s.LinkSound) (bids : List Lines) (held : Carried) :
    (s.claimRoundEnds bids held).LinkSound := by
  unfold State.claimRoundEnds
  split
  · exact h
  · rename_i r hw
    have hreach := reach_linkSound h (roundEnd r)
    have hopen : (s.reach (roundEnd r)).claim.window ≠ none := by rw [reach_claim, hw]; nofun
    have hdriven := drive_linkSound (w := (s.reach (roundEnd r)).bidWord.getD released) hreach fun hd => by
      rw [bidWord_silent (isMember_of_silent hd)]; rfl
    unfold State.endRound
    simp only
    split
    · exact closeWindow_linkSound hdriven hopen
    · exact drivenRound_linkSound hdriven hopen _ _ _

/-! ### The fetch and the columns -/

/-- A fetch that is served goes on or ends (R87). -/
theorem fetchServed_linkSound {s : State} (h : s.LinkSound) : s.fetchServed.LinkSound := by
  have hnext : ∀ t : State, t.LinkSound → t.nextRow.LinkSound := fun t ht => by
    unfold State.nextRow
    split
    · exact ht.of_parts rfl
    · exact { ht with
        edge := fun he => by
          obtain ⟨hwindow, -, hannounce⟩ := ht.edge he
          exact ⟨hwindow, rfl, hannounce⟩
        unsynced := fun hs => by
          obtain ⟨hwindow, -, hheld⟩ := ht.unsynced hs
          exact ⟨hwindow, rfl, hheld⟩ }
  unfold State.fetchServed
  split
  · rename_i g r x y _ _ _
    have hrow : ∀ rows, ({ s with lines := { s.lines with buffer := rows } } : State).LinkSound := fun rows => h.of_parts rfl
    simp only
    split
    · exact (hnext _ (hrow _)).of_parts rfl
    · exact (hrow _).of_parts rfl
  · exact h

theorem offerCollision_linkParts (s : State) (c : CollisionRecord) : (s.offerCollision c).linkParts = s.linkParts := by
  unfold State.offerCollision
  split
  · rfl
  · split <;> rfl

theorem offerPick_linkParts (s : State) (r : PickRecord) : (s.offerPick r).linkParts = s.linkParts := by
  unfold State.offerPick
  split <;> rfl

theorem examinePicks_linkParts (s : State) (rep : ColumnReport) : (s.examinePicks rep).linkParts = s.linkParts := by
  have hpoints : (s.resolvePoints rep).linkParts = s.linkParts := foldl_linkParts (fun _ _ => offerPick_linkParts _ _) _ _
  unfold State.examinePicks State.resolveTrigger
  split
  · exact (offerPick_linkParts _ _).trans hpoints
  · exact hpoints

/-- A station that is not MEMBER contributes nothing to a column, in neither phase (R92, R93). -/
theorem column_silent {s : State} (h : s.isMember = false) (x slot : Nat) :
    s.contributionWord x = none ∧ s.joinDrive x slot = released := by
  refine ⟨by simp [State.contributionWord, State.contribution, h], ?_⟩
  unfold State.joinDrive
  split
  · rfl
  · simp [h]

/-- The report of a column of a synced station is handed on, and the next column is due. -/
theorem handOn_linkSound {s : State} (h : s.LinkSound) (hs : s.link.synced = true) (rep : ColumnReport) :
    (s.handOn rep).LinkSound := by
  have hnext : ({ s with lines := { s.lines with report := some rep, column := some (rep.x + 1) } } : State).LinkSound :=
    { h with unsynced := absurd_false hs }
  refine hnext.of_parts ((examinePicks_linkParts _ _).trans ?_)
  exact foldl_linkParts offerCollision_linkParts _ _

theorem columnResolved_linkSound {s : State} (h : s.LinkSound) (hs : s.link.synced = true) (rivals : List Lines)
    (held : Carried) (join : Lines) : (s.columnResolved rivals held join).LinkSound := by
  unfold State.columnResolved
  split
  · exact h
  · rename_i x _
    have hreach := reach_linkSound h (s.geometry.blank + x)
    have hsynced : (s.reach (s.geometry.blank + x)).link.synced = true := by
      obtain ⟨-, -, -, -, -, -, -, -, -, -, -, -, -, -, -, -, -, hkept, -⟩ := reach_frame s (s.geometry.blank + x)
      rw [hkept, hs]
    generalize s.reach (s.geometry.blank + x) = u at hreach hsynced
    unfold State.resolveColumn
    extract_lets word ownJoin
    refine handOn_linkSound (s := { u with
        link := { u.link with ldata := (u.contributionWord x).getD released, ldataJoin := ownJoin } })
      { hreach with silent := fun hd => ?_ } hsynced _
    have hsilent := fun slot => column_silent (isMember_of_silent hd) x slot
    refine ⟨(hreach.silent hd).1, ?_, ?_⟩
    · exact congrArg (·.getD released) (hsilent 0).1
    · exact (ite_congr rfl (fun _ => rfl) fun _ => (hsilent _).2).trans (ite_self _)

theorem pickEdge_linkParts (s : State) : s.pickEdge.linkParts = s.linkParts := by
  have hwaits : (if s.picks.trigger then s else { s with picks := { s.picks with edgeWaiting := true } }).linkParts =
      s.linkParts := by split <;> rfl
  unfold State.pickEdge
  split
  · unfold State.edgeInColumn
    split
    · split
      · split
        · rfl
        · exact offerPick_linkParts _ _
      · exact hwaits
    · exact hwaits
  · rfl

/-! ### The engine, the port and the resets -/

theorem engineLoad_linkParts (q : List DrawEntry) (s : State) : (engineLoad q s).linkParts = s.linkParts := by
  rw [engineLoad_eq]; rfl

theorem portWrites_linkParts (s : State) : s.portWrites.linkParts = s.linkParts := by
  obtain h | ⟨_, _, _, _, _, -, h⟩ := portWrites_cases s <;> rw [h]
  rfl

theorem engineWrites_linkParts (s : State) : s.engineWrites.linkParts = s.linkParts := by
  obtain h | ⟨_, _, _, -, -, h⟩ := engineWrites_cases s <;> rw [h]
  rfl

theorem engineServed_linkParts (s : State) : s.engineServed.linkParts = s.linkParts := by
  have hadvances : ∀ (t : State) (old : Byte), (t.engineAdvances old).linkParts = t.linkParts := fun t old => by
    unfold State.engineAdvances
    split
    · rfl
    · rfl
    · dsimp only
      split
      · exact engineLoad_linkParts _ _
      · rfl
    · dsimp only
      split
      · rw [abortAll_eq]
        exact engineLoad_linkParts _ _
      · rfl
  unfold State.engineServed
  split
  · rfl
  · exact (hadvances _ _).trans (engineWrites_linkParts s)

theorem portServed_linkParts (s : State) : s.portServed.linkParts = s.linkParts := by
  unfold State.portServed
  split
  · rfl
  · exact (apply_ite State.linkParts _ _ _).trans ((ite_self _).trans (portWrites_linkParts s))
  · exact (apply_ite State.linkParts _ _ _).trans (ite_self _)

theorem drawAborted_linkParts (s : State) (inService : Option Client) : (s.drawAborted inService).linkParts = s.linkParts := by
  unfold State.drawAborted State.engineAborted
  simp only [abortAll_eq]
  split
  · rfl
  · rfl
  · split <;> rfl
  · rfl

/-- Whatever the straps, the initial state is as sound as the reset state. -/
theorem pinReset_linkSound (s : State) (pin : Bool) (straps : Straps) : (s.pinReset pin straps).LinkSound :=
  { reset_linkSound with counter := totalLines_pos _, silence := Nat.zero_le _ }

/-- RESTART keeps an edge still to be decided, and nothing of the line that it cuts (R165). -/
theorem restarted_linkSound (s : State) (inService : Option Client) : (s.restarted inService).LinkSound :=
  { reset_linkSound with
    counter := totalLines_pos _
    silence := Nat.zero_le _
    edge := fun _ => ⟨rfl, rfl, rfl⟩ }

theorem receiveFrame_linkSound {s : State} (h : s.LinkSound) (r : Received) (inService : Option Client) :
    (s.receiveFrame r inService).LinkSound := by
  cases r with
  | abort => exact h.of_parts (drawAborted_linkParts s inService)
  | restart => exact restarted_linkSound s inService
  | entry e => exact h.of_parts (by simp only [State.receiveFrame, State.offerEntry]; split <;> rfl)

/-! ### The commands -/

theorem takeDraw_linkParts (c : Command) (e : Entry) (s : State) : (s.takeDraw c e).linkParts = s.linkParts := by
  unfold State.takeDraw
  split
  · rfl
  · unfold State.acceptDraw
    split
    · exact engineLoad_linkParts _ _
    all_goals rfl

/-- A detach pending stands in MEMBER only; DETACH in any other state takes effect at once (R63, R64). -/
theorem detach_linkSound {s : State} (h : s.LinkSound) (e : Entry) : (s.detach e).LinkSound := by
  have hleaves : ((s.changeState .detached).answer e .ok []).LinkSound := (changeState_linkSound h .detached).of_parts rfl
  unfold State.detach
  split
  · rename_i hmember
    exact { h with detaching := fun _ => hmember }
  · exact h.of_parts rfl
  all_goals exact hleaves

theorem rejoin_linkSound {s : State} (h : s.LinkSound) (e : Entry) : (s.rejoin e).LinkSound := by
  have hlistens : (((s.changeState .listen).atSilenceLimit).answer e .ok []).LinkSound :=
    (atSilenceLimit_linkSound (changeState_linkSound h .listen)).of_parts rfl
  unfold State.rejoin
  split
  · exact hlistens
  · exact hlistens
  · exact hlistens
  all_goals exact h.of_parts rfl

/-! ### Every happening, and every step -/

theorem happening_linkSound {s t : State} {enabled : Bool} {f : State → State} (h : s.happening enabled f = .next t)
    (hs : s.LinkSound) (hf : enabled = true → (f s).LinkSound) : t.LinkSound := by
  obtain rfl | ⟨-, he, rfl⟩ := happening_cases h
  · exact hs
  · exact hf he

theorem accessing_linkSound {s t : State} {enabled : Bool} {fault : Option Fault} {f : State → State}
    (h : s.accessing enabled fault f = .next t) (hs : s.LinkSound) (hf : (f s).LinkSound) : t.LinkSound := by
  obtain rfl | ⟨-, -, -, rfl⟩ := accessing_cases h
  · exact hs
  · exact hf

theorem taking_linkSound {s t : State} {row : Entry → Bool} {act : Entry → State → State} (h : s.taking row act = .next t)
    (hs : s.LinkSound) (hact : ∀ (u : State) (e : Entry), u.LinkSound → (act e u).LinkSound) : t.LinkSound := by
  obtain rfl | ⟨e, rest, -, -, rfl⟩ := taking_cases h
  · exact hs
  · exact hact _ e (hs.of_parts rfl)

/-- A row that takes a command of the blocks other than these two. -/
theorem taking_linkParts {s t : State} {row : Entry → Bool} {act : Entry → State → State} (h : s.taking row act = .next t)
    (hs : s.LinkSound) (hact : ∀ (u : State) (e : Entry), (act e u).linkParts = u.linkParts) : t.LinkSound :=
  taking_linkSound h hs fun u e hu => hu.of_parts (hact u e)

theorem exec_linkSound {c : Instr} {s t : State} (h : exec c s = .next t) (hs : s.LinkSound) : t.LinkSound := by
  cases c with
  | resetPinAsserted => cases h; exact pinReset_linkSound ..
  | resetPinReleased => cases h; exact pinReset_linkSound ..
  | commandFrameReceived bytes inService =>
    have hsent : (s.send (List.replicate bytes.length 0#8)).LinkSound := hs.of_parts rfl
    exact accessing_linkSound (f := fun s => (s.send _).receiveFrame (receive bytes) inService) h hs
      (receiveFrame_linkSound hsent _ _)
  | ignoredTransaction kind count => exact happening_linkSound (f := fun s => s.send _) h hs fun _ => hs.of_parts rfl
  | readTransaction count =>
    refine happening_linkSound (f := fun s => s.readOut count) h hs fun _ => hs.of_parts ?_
    unfold State.readOut
    split
    · rfl
    · split <;> rfl
  | badFrameEntryTaken => exact taking_linkParts h hs fun _ _ => rfl
  | unknownCodeTaken => exact taking_linkParts h hs fun _ _ => rfl
  | badLengthEntryTaken => exact taking_linkParts h hs fun _ _ => rfl
  | objectWriteNow => exact taking_linkParts h hs fun u e => by unfold State.writeNow; split <;> rfl
  | objectWriteAtFrame =>
    refine taking_linkParts h hs fun u e => ?_
    unfold State.writeAtFrame State.queueUpdate
    split
    · rfl
    · split <;> rfl
  | objectMoveNow =>
    refine taking_linkParts h hs fun u e => ?_
    unfold State.moveNow
    split
    · rfl
    · dsimp only
      split <;> rfl
  | objectMoveAtFrame =>
    refine taking_linkParts h hs fun u e => ?_
    unfold State.moveAtFrame State.queueUpdate
    split
    · rfl
    · split <;> rfl
  | objectRead => exact taking_linkParts h hs fun u e => by unfold State.readObject; dsimp only; split <;> rfl
  | flushPending => exact taking_linkParts h hs fun _ _ => rfl
  | tintWrite => exact taking_linkParts h hs fun u e => by unfold State.writeTint; dsimp only; split <;> rfl
  | surfaceWrite => exact taking_linkParts h hs fun u e => by unfold State.surfaceWrite; dsimp only; split <;> rfl
  | portWriteAccessServed => exact accessing_linkSound h hs (hs.of_parts (portServed_linkParts s))
  | surfaceRead => exact taking_linkParts h hs fun u e => by unfold State.surfaceRead; dsimp only; split <;> rfl
  | portReadAccessServed => exact accessing_linkSound h hs (hs.of_parts (portServed_linkParts s))
  | fill => exact taking_linkParts h hs fun u e => takeDraw_linkParts _ e u
  | copy => exact taking_linkParts h hs fun u e => takeDraw_linkParts _ e u
  | line => exact taking_linkParts h hs fun u e => takeDraw_linkParts _ e u
  | seek => exact taking_linkParts h hs fun u e => takeDraw_linkParts _ e u
  | plot => exact taking_linkParts h hs fun u e => takeDraw_linkParts _ e u
  | probe => exact taking_linkParts h hs fun u e => takeDraw_linkParts _ e u
  | engineAccessServed => exact accessing_linkSound h hs (hs.of_parts (engineServed_linkParts s))
  | drawAbort inService =>
    exact happening_linkSound (f := fun s => s.drawAborted inService) h hs fun _ => hs.of_parts (drawAborted_linkParts _ _)
  | restart inService =>
    exact accessing_linkSound (f := fun s => s.restarted inService) h hs (restarted_linkSound _ _)
  | paletteWrite => exact taking_linkParts h hs fun u e => by unfold State.writePalette; dsimp only; split <;> rfl
  | pickAt =>
    refine taking_linkParts h hs fun u e => ?_
    unfold State.pickAt
    dsimp only
    split
    · rfl
    · split <;> rfl
  | readPicks => exact taking_linkParts h hs fun u e => by unfold State.readPicks; split <;> rfl
  | readCollisions => exact taking_linkParts h hs fun u e => by unfold State.readCollisions; dsimp only; split <;> rfl
  | readShortfall => exact taking_linkParts h hs fun _ _ => rfl
  | readMembers => exact taking_linkParts h hs fun _ _ => rfl
  | detach => exact taking_linkSound h hs fun _ e hu => detach_linkSound hu e
  | rejoin => exact taking_linkSound h hs fun _ e hu => rejoin_linkSound hu e
  | readStatus => exact taking_linkParts h hs fun _ _ => rfl
  | readEvents => exact taking_linkParts h hs fun _ _ => rfl
  | lmarkLeadingEdge => exact happening_linkSound h hs fun _ => leadingEdge_linkSound hs
  | lineMark => exact happening_linkSound (f := fun s => s.takeMark .line) h hs fun _ => takeMark_linkSound hs _
  | frameMark => exact happening_linkSound (f := fun s => s.takeMark .frame) h hs fun _ => takeMark_linkSound hs _
  | lineTimerRunsOut => exact happening_linkSound h hs fun _ => timerRunsOut_linkSound hs
  | silenceCountLimit => exact happening_linkSound h hs fun _ => silenceReached_linkSound hs
  | frameWord others =>
    exact happening_linkSound (f := fun s => s.frameWordEnds others) h hs fun _ => frameWordEnds_linkSound hs _
  | announcePlace others =>
    exact happening_linkSound (f := fun s => s.announcePlaceEnds others) h hs fun _ => announcePlaceEnds_linkSound hs _
  | claimRound bids held =>
    exact happening_linkSound (f := fun s => s.claimRoundEnds bids held) h hs fun _ => claimRoundEnds_linkSound hs _ _
  | fetchAccessServed => exact accessing_linkSound h hs (fetchServed_linkSound hs)
  | columnResolved rivals held join =>
    refine happening_linkSound (f := fun s => s.columnResolved rivals held join) h hs fun hdue => ?_
    simp only [State.columnDue, Bool.and_eq_true, and_assoc] at hdue
    exact columnResolved_linkSound hs hdue.1 _ _ _
  | picktrigEdge => exact happening_linkSound h hs fun _ => hs.of_parts (pickEdge_linkParts s)

/-- Settles O59: a step is the passing of a pixel time or a happening, and each keeps the two units sound. -/
theorem stepKeepsTheLinkSound : Obligations.StepKeepsTheLinkSound := by
  unfold Obligations.StepKeepsTheLinkSound
  intro s t hs h
  unfold step at h
  split at h
  · cases h
    exact tick_linkSound hs
  · exact exec_linkSound h (hs.of_parts rfl)

end Sys2Proof.Machine
end

section
/-! SUPPORT. The passing of pixel times, the resets, and the pins. -/

namespace Sys2Proof.Machine

/-! ### Pixel times -/

/-- Pixel times that pass make a line time for each line length, and those left over are kept. -/
theorem lines_add {line : Nat} (a b : Nat) : (a + b) / line = a / line + (a % line + b) / line := by
  obtain rfl | h := Nat.eq_zero_or_pos line
  · simp
  · conv_lhs => rw [← Nat.div_add_mod a line, Nat.add_assoc, Nat.mul_add_div h]

/-- A count that stops at its limit does so whether it is counted at once or in two parts. -/
theorem min_add_min (limit a b : Nat) : min limit (min limit a + b) = min limit (a + b) := by omega

/-- A mark driven stands until its end, whether the pixel times pass at once or in two parts. -/
theorem mark_filter_filter (lmark : Option MarkKind) {a b : Nat} (h : a ≤ b) :
    (lmark.filter fun k => decide (a < markLength k)).filter (fun k => decide (b < markLength k)) =
      lmark.filter fun k => decide (b < markLength k) := by
  rw [Option.filter_filter]
  congr 1
  funext k
  rw [← Bool.decide_and]
  exact decide_eq_decide.2 ⟨And.right, fun hb => ⟨h.trans_lt hb, hb⟩⟩

/-- Pixel times pass in two parts as they pass at once. -/
theorem passTime_passTime (s : State) (m n : Nat) : (s.passTime m).passTime n = s.passTime (m + n) := by
  have hlink : ((s.passTime m).passTime n).link = (s.passTime (m + n)).link := by
    have hgeometry : (s.passTime m).geometry = s.geometry := rfl
    have hle : s.link.pixelTime + m ≤ s.link.pixelTime + (m + n) := by omega
    have hmark := mark_filter_filter s.link.lmark hle
    have htimer : (s.link.lineTimer.map fun t => min s.geometry.linePixels (t + m)).map
        (fun t => min s.geometry.linePixels (t + n)) = s.link.lineTimer.map fun t => min s.geometry.linePixels (t + (m + n)) := by
      rw [Option.map_map]
      congr 1
      funext t
      exact (min_add_min _ _ _).trans (by rw [Nat.add_assoc])
    have hcount := lines_add (line := s.geometry.linePixels) (s.link.silencePixels + m) n
    rw [State.passTime, hgeometry]
    simp only [State.passTime, LinkTiming.mk.injEq, htimer, min_add_min, Nat.mod_add_mod, Nat.add_assoc, hmark, true_and]
    exact ⟨by rw [← hcount, Nat.add_assoc], trivial⟩
  have houtput : ((s.passTime m).passTime n).output = (s.passTime (m + n)).output := by
    have hpulse : (s.output.hsync && decide (s.link.pixelTime + m < 8) && decide (s.link.pixelTime + m + n < 8)) =
        (s.output.hsync && decide (s.link.pixelTime + (m + n) < 8)) := by
      rw [Bool.and_assoc, ← Bool.decide_and]
      exact congrArg _ (decide_eq_decide.2 (by omega))
    exact congrArg (fun hsync => ({ s.output with rgb := .black, hsync := hsync } : OutputStage)) hpulse
  calc (s.passTime m).passTime n
      = { s with link := ((s.passTime m).passTime n).link, output := ((s.passTime m).passTime n).output } := rfl
    _ = s.passTime (m + n) := by rw [hlink, houtput]; rfl

theorem reach_of_le {s : State} {p : Nat} (h : p ≤ s.link.pixelTime) : s.reach p = s := if_neg h.not_gt

/-- A position ahead is reached by one pixel time and then the rest (log entry 4). -/
theorem reach_tick {s : State} {p : Nat} (h : s.link.pixelTime < p) : s.reach p = (s.passTime 1).reach p := by
  have hfirst : s.reach p = s.passTime (p - s.link.pixelTime) := if_pos h
  obtain hlast | hmore := Nat.eq_or_lt_of_le h
  · rw [reach_of_le (s := s.passTime 1) hlast.ge, hfirst, ← hlast, Nat.succ_eq_add_one, Nat.add_sub_cancel_left]
  · have hrest : (s.passTime 1).reach p = (s.passTime 1).passTime (p - (s.link.pixelTime + 1)) := if_pos hmore
    rw [hfirst, hrest, passTime_passTime]
    congr 1
    omega

/-- A mark that stands is kept until its length is reached (R24). -/
theorem mark_filter_length (lmark : Option MarkKind) (time : Nat) :
    (lmark.filter fun k => decide (time < markLength k)) = match lmark with
      | none => none
      | some .line => if time < 2 then some .line else none
      | some .frame => if time < 8 then some .frame else none := by
  match lmark with
  | none => rfl
  | some .line => exact if_congr decide_eq_true_iff rfl rfl
  | some .frame => exact if_congr decide_eq_true_iff rfl rfl

/-- A step on an empty queue is the passing of time. -/
theorem step_idle {s : State} (h : s.pending = []) : step s = .next s.tick := by
  unfold step
  rw [h]

/-- Settles O2: an idle step passes one pixel time, and pixel times pass one by one as they pass together. -/
theorem idleStepPassesOnePixelTime : Obligations.IdleStepPassesOnePixelTime := by
  unfold Obligations.IdleStepPassesOnePixelTime
  intro s hq
  have hrun : s.resetPin = false → step s = .next (s.passTime 1) := fun hp => by
    rw [step_idle hq, State.tick, hp]
    rfl
  refine ⟨fun hp => ?_, fun hp => ?_, fun p => reach_of_le, fun p t hp hlt ht => ?_, fun p waiting => ?_⟩
  · rw [step_idle hq, State.tick, hp]
    rfl
  · exact (hrun hp).trans (congrArg
      (fun lmark => Host.Outcome.next { s.passTime 1 with link := { (s.passTime 1).link with lmark := lmark } })
      (mark_filter_length s.link.lmark (s.link.pixelTime + 1)))
  · rw [hrun hp] at ht
    cases ht
    exact reach_tick hlt
  · unfold State.reach
    split <;> rfl

/-! ### The resets -/

theorem happening_reset {s : State} (h : s.resetPin = true) (enabled : Bool) (f : State → State) :
    s.happening enabled f = .next s := by
  simp [State.happening, h]

theorem accessing_reset {s : State} (h : s.resetPin = true) (enabled : Bool) (fault : Option Fault) (f : State → State) :
    s.accessing enabled fault f = .next s := by
  simp [State.accessing, h]

theorem taking_reset {s : State} (h : s.resetPin = true) (row : Entry → Bool) (act : Entry → State → State) :
    s.taking row act = .next s := by
  unfold State.taking
  split
  · rfl
  · exact happening_reset h _ _

/-- While the reset pin is asserted, only its own two rows act (R158, R170; log entry 12). -/
theorem exec_reset {c : Instr} {s : State} (h : s.resetPin = true) (hasserted : c ≠ .resetPinAsserted)
    (hreleased : ∀ station preset video, c ≠ .resetPinReleased station preset video) : exec c s = .next s := by
  cases c with
  | resetPinAsserted => exact absurd rfl hasserted
  | resetPinReleased station preset video => exact absurd rfl (hreleased station preset video)
  | commandFrameReceived | portWriteAccessServed | portReadAccessServed | engineAccessServed | restart | fetchAccessServed =>
    simp only [exec, execCommandFrameReceived, execPortWriteAccessServed, execPortReadAccessServed, execEngineAccessServed,
      execRestart, execFetchAccessServed, accessing_reset h]
  | ignoredTransaction | readTransaction | drawAbort | lmarkLeadingEdge | lineMark | frameMark | lineTimerRunsOut
  | silenceCountLimit | frameWord | announcePlace | claimRound | columnResolved | picktrigEdge =>
    simp only [exec, execIgnoredTransaction, execReadTransaction, execDrawAbort, execLmarkLeadingEdge, execLineMark,
      execFrameMark, execLineTimerRunsOut, execSilenceCountLimit, execFrameWord, execAnnouncePlace, execClaimRound,
      execColumnResolved, execPicktrigEdge, happening_reset h]
  | _ => exact taking_reset h ..

/-- Settles O5: both edges write `State.initial`, and with the pin asserted every other row finds its condition failing. -/
theorem resetPinSetsEveryBlock : Obligations.ResetPinSetsEveryBlock := by
  unfold Obligations.ResetPinSetsEveryBlock
  exact ⟨fun s => ⟨rfl, fun _ _ _ => rfl⟩, fun c s hp hasserted hreleased => exec_reset hp hasserted hreleased⟩

/-- The access that ends whole at a RESTART changes the surface, and nothing else (R139, R157). -/
theorem finishAccess_eq (s : State) (inService : Option Client) :
    s.finishAccess inService = { s with surface := (s.finishAccess inService).surface } := by
  unfold State.finishAccess
  split
  · rfl
  · rfl
  · obtain h | ⟨_, _, _, _, _, -, h⟩ := portWrites_cases s <;> rw [h]
    rfl
  · obtain h | ⟨_, _, _, -, -, h⟩ := engineWrites_cases s <;> rw [h]
    rfl

/-- The port's access is the one that ends, where it may be under service and the frame names it. -/
theorem serving_port {s : State} (h : s.mayServe .port = true) : s.serving (some .port) = some .port := by
  unfold State.serving
  cases hh : s.heldClient with
  | none => rw [Option.none_or]; exact Option.filter_eq_some_iff.2 ⟨rfl, h⟩
  | some c => rw [Option.some_or, (mayServe_held hh .port).1 h]

/-- What the access that ends leaves, by the client it belongs to (R139, R157). -/
theorem finishAccess_none {s : State} {inService : Option Client} (h : s.serving inService = none) : s.finishAccess inService = s := by
  simp only [State.finishAccess, h]

theorem finishAccess_fetch {s : State} {inService : Option Client} (h : s.serving inService = some .fetch) :
    s.finishAccess inService = s := by
  simp only [State.finishAccess, h]

theorem finishAccess_port {s : State} {inService : Option Client} (h : s.serving inService = some .port) :
    s.finishAccess inService = s.portWrites := by
  simp only [State.finishAccess, h]

theorem finishAccess_engine {s : State} {inService : Option Client} (h : s.serving inService = some .engine) :
    s.finishAccess inService = s.engineWrites := by
  simp only [State.finishAccess, h]

/-- Settles O6: the access in service ends, and then the blocks are set. -/
theorem restartResetsTheBlocks : Obligations.RestartResetsTheBlocks := by
  unfold Obligations.RestartResetsTheBlocks
  intro s inService hp hf
  refine ⟨?_, fun hnone hheld => ?_, fun h => ?_, fun e p h hcurrent => ?_, fun tag x y count got ht h => ?_,
    fun tag x y pixels next ht hm hnamed => ?_⟩
  · have hacts : exec (.restart inService) s = .next ((s.finishAccess inService).restartBlocks) :=
      accessing_of (f := fun s => s.restarted inService) hp rfl hf
    rw [hacts, finishAccess_eq]
    simp only [State.restartBlocks, hp]
    rfl
  · have hserving : s.serving inService = none := by
      simp only [State.serving, State.heldClient, hheld, hnone]
      rfl
    rw [finishAccess_none hserving]
  · obtain h | h := h
    · rw [finishAccess_none h]
    · rw [finishAccess_fetch h]
  · rw [finishAccess_engine h]
    simp only [State.engineWrites, hcurrent]
    cases accessWrite e.cmd p (s.pixel (accessPosition e.cmd p).1 (accessPosition e.cmd p).2) <;> rfl
  · rw [finishAccess_port h]
    simp only [State.portWrites, ht]
  · subst hnamed
    rw [finishAccess_port (serving_port hm)]
    simp only [State.portWrites, ht]
    rfl

/-! ### The pins and the presets -/

/-- Settles O42: the figures are those of Table 2-1, and each pin is driven exactly with the strap on. -/
theorem videoPinsFollowTheStrap : Obligations.VideoPinsFollowTheStrap := by
  unfold Obligations.VideoPinsFollowTheStrap
  refine ⟨fun s => ?_, fun s => ⟨fun hv => ?_, fun hv => ?_⟩⟩
  · refine ⟨fun h => ?_, fun h => ?_, fun h => ?_, fun h => ?_⟩
    all_goals
      rw [State.geometry, h]
      exact ⟨rfl, rfl, rfl, rfl, rfl⟩
  · simp [State.rgbPins, State.hsyncPin, State.vsyncPin, hv]
  · refine ⟨by simp [State.rgbPins, hv], by simp [State.hsyncPin, hv], fun hline => ?_⟩
    have hlast : s.geometry.totalLines ≤ s.link.lineCounter + 3 ↔ s.link.lineCounter + 3 = s.geometry.totalLines ∨
        s.link.lineCounter + 2 = s.geometry.totalLines ∨ s.link.lineCounter + 1 = s.geometry.totalLines := by omega
    simp [State.vsyncPin, State.vsync, hv, hlast]

end Sys2Proof.Machine
end

section
/-! SUPPORT. Leading edges, marks driven, the line timer and the silence count: what each changes and what it leaves as it was. -/

namespace Sys2Proof.Machine

/-! ### What the link's own happenings leave as it was -/

/-- What leading edges, marks driven, losses of sync and changes of the own state leave as it was. -/
structure State.LinkFrame (s t : State) : Prop where
  resetPin : t.resetPin = s.resetPin
  straps : t.straps = s.straps
  table : t.table = s.table
  tints : t.tints = s.tints
  palette : t.output.palette = s.output.palette
  collisions : t.collisions = s.collisions
  points : t.picks.points = s.picks.points
  records : t.picks.queue = s.picks.queue
  surface : t.surface = s.surface
  engine : t.engine = s.engine
  commands : t.port.commands = s.port.commands
  responses : t.port.responses = s.port.responses
  members : t.member.members = s.member.members
  grants : t.claim.grants = s.claim.grants
  lineCounter : t.link.lineCounter = s.link.lineCounter
  frameNumber : t.link.frameNumber = s.link.frameNumber

theorem State.LinkFrame.refl (s : State) : s.LinkFrame s := by constructor <;> rfl

theorem State.LinkFrame.trans {s t u : State} (h : s.LinkFrame t) (k : t.LinkFrame u) : s.LinkFrame u where
  resetPin := k.resetPin.trans h.resetPin
  straps := k.straps.trans h.straps
  table := k.table.trans h.table
  tints := k.tints.trans h.tints
  palette := k.palette.trans h.palette
  collisions := k.collisions.trans h.collisions
  points := k.points.trans h.points
  records := k.records.trans h.records
  surface := k.surface.trans h.surface
  engine := k.engine.trans h.engine
  commands := k.commands.trans h.commands
  responses := k.responses.trans h.responses
  members := k.members.trans h.members
  grants := k.grants.trans h.grants
  lineCounter := k.lineCounter.trans h.lineCounter
  frameNumber := k.frameNumber.trans h.frameNumber

theorem State.LinkFrame.geometry {s t : State} (h : s.LinkFrame t) : t.geometry = s.geometry :=
  congrArg (fun straps : Straps => geometryOf straps.preset) h.straps

theorem passTime_linkFrame (s : State) (n : Nat) : s.LinkFrame (s.passTime n) := by constructor <;> rfl

theorem reach_linkFrame (s : State) (p : Nat) : s.LinkFrame (s.reach p) := by
  unfold State.reach
  split
  · exact passTime_linkFrame s _
  · exact .refl s

theorem releaseMark_linkFrame (s : State) : s.LinkFrame s.releaseMark := by
  unfold State.releaseMark
  split
  · exact .refl s
  · rename_i kind _
    exact { reach_linkFrame s (markLength kind) with }

theorem endLine_linkFrame (s : State) : s.LinkFrame s.endLine := by
  rw [endLine_eq, cutWindow_eq]
  constructor
  case grants => dsimp only; split <;> rfl
  all_goals rfl

theorem startLine_linkFrame (s : State) : s.LinkFrame s.startLine :=
  (endLine_linkFrame s).trans (by constructor <;> rfl)

theorem leadingEdge_linkFrame (s : State) : s.LinkFrame s.leadingEdge := by
  unfold State.leadingEdge
  split
  · exact .refl s
  · exact (releaseMark_linkFrame s).trans (startLine_linkFrame _)

theorem driveMark_linkFrame (s : State) (kind : MarkKind) : s.LinkFrame (s.driveMark kind) :=
  (leadingEdge_linkFrame s).trans (by constructor <;> rfl)

theorem changeState_linkFrame (s : State) (new : OwnState) : s.LinkFrame (s.changeState new) := by
  obtain ⟨-, -, hcounter, hframe, -⟩ := changeState_link_frame s new
  rw [changeState_eq]
  constructor
  case lineCounter => exact hcounter
  case frameNumber => exact hframe
  all_goals rfl

theorem found_linkFrame (s : State) : s.LinkFrame s.found :=
  ((changeState_linkFrame s .founding).trans (driveMark_linkFrame _ .frame)).trans (by constructor <;> rfl)

theorem loseSync_linkFrame (s : State) : s.LinkFrame s.loseSync := by
  unfold State.loseSync
  split
  · exact (endLine_linkFrame s).trans (by constructor <;> rfl)
  · exact .refl s

theorem atSilenceLimit_linkFrame (s : State) : s.LinkFrame s.atSilenceLimit := by
  unfold State.atSilenceLimit
  split
  · split
    · exact (loseSync_linkFrame s).trans (found_linkFrame _)
    · exact loseSync_linkFrame s
  · exact .refl s

/-- STATE raised once is one more count of it. -/
theorem raise_state (e : Events) : e.raise .state = { e with state := oneMore e.state } :=
  congrArg (fun n => { e with state := n }) (saturate_oneMore _)

/-! ### The line in hand -/

/-- The line in hand is over: an open claim window is cut with its denials, the fetch stops, no further column and no further
place comes, and a waiting edge fills the trigger point (R29, R46, R77, R91, R98; log entry 13). -/
structure State.LineOver (s t : State) : Prop where
  claim : t.claim = s.cutWindow.claim
  lines : t.lines = { s.lines with fetching := false, column := none }
  picks : t.picks = { s.picks with
    trigger := s.picks.trigger || s.picks.edgeWaiting, edgeWaiting := false, edgeTaken := false }
  announce : t.member.announce = none

/-- The claim window that a cut leaves depends on the Claim Unit and the line it stands on only. -/
theorem cutWindow_claim {s t : State} (hc : t.claim = s.claim) (hl : t.link.lineCounter = s.link.lineCounter) :
    t.cutWindow.claim = s.cutWindow.claim := by
  rw [cutWindow_eq, cutWindow_eq s]
  simp only [hc, hl]

theorem endLine_lineOver (s : State) : s.LineOver s.endLine := by
  rw [endLine_eq]
  constructor <;> rfl

/-- What does not touch the line in hand leaves it for later. -/
theorem State.LineOver.after {s t u : State} (h : t.LineOver u) (hc : t.claim = s.claim)
    (hl : t.link.lineCounter = s.link.lineCounter) (hlines : t.lines = s.lines) (hpicks : t.picks = s.picks) : s.LineOver u where
  claim := h.claim.trans (cutWindow_claim hc hl)
  lines := hlines ▸ h.lines
  picks := hpicks ▸ h.picks
  announce := h.announce

/-- A line that is over can end again. -/
theorem State.LineOver.again {s t u : State} (h : s.LineOver t) (k : t.LineOver u) : s.LineOver u where
  claim := by
    have hclosed : t.claim.window = none := h.claim ▸ cutWindow_window s
    rw [k.claim, cutWindow_eq, ← h.claim]
    simp only [hclosed]
  lines := by rw [k.lines, h.lines]
  picks := by rw [k.picks, h.picks, Bool.or_false]
  announce := k.announce

/-! ### A leading edge -/

/-- The end of the own assertion touches the Link Timing Unit and the outputs only. -/
theorem releaseMark_eq (s : State) :
    s.releaseMark = { s with link := s.releaseMark.link, output := s.releaseMark.output } := by
  unfold State.releaseMark State.reach
  split
  · rfl
  · dsimp only
    split <;> rfl

theorem releaseMark_none {s : State} (h : s.link.lmark = none) : s.releaseMark = s := by
  unfold State.releaseMark
  rw [h]

theorem releaseMark_some {s : State} {kind : MarkKind} (h : s.link.lmark = some kind) :
    s.releaseMark =
      { s.reach (markLength kind) with link := { (s.reach (markLength kind)).link with lmark := none } } := by
  unfold State.releaseMark
  rw [h]

/-- While the own assertion runs to its end, the sync is as it was, and a clock that stands at its limit stays there. -/
theorem releaseMark_clocks (s : State) :
    s.releaseMark.link.synced = s.link.synced ∧
    (s.link.lineTimer = some s.geometry.linePixels → s.releaseMark.link.lineTimer = some s.geometry.linePixels) ∧
    (s.link.silenceCount = 2 * s.geometry.totalLines → s.releaseMark.link.silenceCount = 2 * s.geometry.totalLines) := by
  unfold State.releaseMark State.reach
  split
  · exact ⟨rfl, id, id⟩
  · dsimp only
    split
    · refine ⟨rfl, fun h => ?_, fun h => ?_⟩
      · rw [State.passTime_link_lineTimer, h, Option.map_some, Nat.min_eq_left (Nat.le_add_right _ _)]
      · rw [State.passTime_link_silenceCount, h, Nat.min_eq_left (Nat.le_add_right _ _)]
    · exact ⟨rfl, id, id⟩

/-- A new leading edge, whole (R23, R29, R104). -/
theorem leadingEdge_new {s : State} (h : s.link.edgeSeen = false) :
    s.leadingEdge = { s with
      link := { s.releaseMark.link with
        pixelTime := 0, edgeSeen := true, frameDriven := false, ldata := released, ldataJoin := released }
      member := { s.member with announce := none }
      claim := s.cutWindow.claim
      lines := { s.lines with fetching := false, column := none }
      picks := { s.picks with
        trigger := s.picks.trigger || s.picks.edgeWaiting, edgeWaiting := false, edgeTaken := false }
      output := { s.releaseMark.output with rgb := .black, hsync := true } } := by
  have hnew : s.leadingEdge = s.releaseMark.startLine := if_neg (Bool.eq_false_iff.1 h)
  have hclaim : s.releaseMark.cutWindow.claim = s.cutWindow.claim :=
    cutWindow_claim (by rw [releaseMark_eq]) (releaseMark_linkFrame s).lineCounter
  rw [hnew, State.startLine, endLine_eq, hclaim, releaseMark_eq]

theorem leadingEdge_lineOver {s : State} (h : s.link.edgeSeen = false) : s.LineOver s.leadingEdge := by
  rw [leadingEdge_new h]
  constructor <;> rfl

theorem leadingEdge_port (s : State) : s.leadingEdge.port = s.port := by
  cases h : s.link.edgeSeen with
  | true => rw [leadingEdge_seen s h]
  | false => rw [leadingEdge_new h]

theorem leadingEdge_member (s : State) :
    s.leadingEdge.member = { s.member with announce := s.leadingEdge.member.announce } := by
  cases h : s.link.edgeSeen with
  | true => rw [leadingEdge_seen s h]
  | false => rw [leadingEdge_new h]

/-! ### A mark driven, and the founding of the link -/

/-- A mark driven where no edge was seen makes one: the line in hand is over (R30). -/
theorem driveMark_lineOver {s : State} (h : s.link.edgeSeen = false) (kind : MarkKind) : s.LineOver (s.driveMark kind) :=
  { leadingEdge_lineOver h with }

/-- A line that is over stays so as the station founds the link (R54). -/
theorem State.LineOver.found {s t : State} (h : s.LineOver t) : s.LineOver t.found := by
  obtain ⟨-, -, -, -, hclaim, hlines, -, -, hpicks, -⟩ := changeState_frame t .founding
  have hchanged : s.LineOver (t.changeState .founding) :=
    { claim := hclaim.trans h.claim
      lines := hlines.trans h.lines
      picks := hpicks.trans h.picks
      announce := by rw [changeState_member, h.announce]; rfl }
  cases he : (t.changeState .founding).link.edgeSeen with
  | true =>
    have hdriven : s.LineOver ((t.changeState .founding).driveMark .frame) := by
      rw [driveMark_seen _ _ he]
      exact { hchanged with }
    exact { hdriven with }
  | false => exact { hchanged.again (driveMark_lineOver he .frame) with }

/-- A station that founds the link where no edge was seen ends the line in hand. -/
theorem found_lineOver {s : State} (h : s.link.edgeSeen = false) : s.LineOver s.found := by
  obtain ⟨-, -, -, -, hclaim, hlines, -, -, hpicks, -⟩ := changeState_frame s .founding
  have he : (s.changeState .founding).link.edgeSeen = false := by rw [changeState_link_drives s _ rfl, ← h]
  exact { (driveMark_lineOver he .frame).after hclaim (changeState_linkFrame s _).lineCounter hlines hpicks with }

/-- One that founds it into an assertion that stands leaves the line as it was. -/
theorem found_seen {s : State} (h : s.link.edgeSeen = true) :
    s.found.claim = s.claim ∧ s.found.lines = s.lines ∧ s.found.picks = s.picks := by
  obtain ⟨-, -, -, -, hclaim, hlines, -, -, hpicks, -⟩ := changeState_frame s .founding
  have he : (s.changeState .founding).link.edgeSeen = true := by rw [changeState_link_drives s _ rfl, ← h]
  unfold State.found
  rw [driveMark_seen _ _ he]
  exact ⟨hclaim, hlines, hpicks⟩

theorem found_port (s : State) : s.found.port = { s.port with events := s.port.events.raise .state } :=
  (leadingEdge_port _).trans (changeState_port s .founding)

theorem found_member (s : State) :
    s.found.member = { s.member with
      own := .founding, listenCount := 0, windowWait := 0, admitted := false, detachPending := false
      announce := s.found.member.announce } :=
  (leadingEdge_member _).trans (by rw [changeState_member]; rfl)

/-- The Link Timing Unit of a station that has founded the link (R54). -/
theorem found_link (s : State) :
    s.found.link.lmark = some .frame ∧ s.found.link.edgeSeen = true ∧ s.found.link.synced = s.link.synced ∧
    s.found.link.lineTimer = some s.found.link.pixelTime ∧
    s.found.link.pixelTime = (if s.link.edgeSeen then s.link.pixelTime else 0) := by
  obtain ⟨-, -, -, -, hsynced, htime, hedge⟩ := changeState_link_frame s .founding
  have hdriven : (s.changeState .founding).leadingEdge.link.synced = s.link.synced ∧
      (s.changeState .founding).leadingEdge.link.pixelTime = if s.link.edgeSeen then s.link.pixelTime else 0 := by
    cases he : (s.changeState .founding).link.edgeSeen with
    | true =>
      rw [leadingEdge_seen _ he, ← hedge, he]
      exact ⟨hsynced, htime⟩
    | false =>
      obtain ⟨hreleased, -⟩ := releaseMark_clocks (s.changeState .founding)
      rw [leadingEdge_new he, ← hedge, he]
      exact ⟨hreleased.trans hsynced, rfl⟩
  exact ⟨rfl, leadingEdge_edgeSeen _, hdriven.1, rfl, hdriven.2⟩

/-- A silence count at its limit stands there through the founding, and so does any count where no mark stood. -/
theorem found_silenceCount {s : State} (h : s.link.lmark = none ∨ s.link.silenceCount = 2 * s.geometry.totalLines) :
    s.found.link.silenceCount = s.link.silenceCount := by
  have hlink := changeState_link_drives s .founding rfl
  have hgeometry := (changeState_linkFrame s .founding).geometry
  have hreleased : (s.changeState .founding).releaseMark.link.silenceCount = s.link.silenceCount := by
    obtain h | h := h
    · rw [releaseMark_none (by rw [hlink]; exact h), hlink]
    · obtain ⟨-, -, hlimit⟩ := releaseMark_clocks (s.changeState .founding)
      rw [hlimit (by rw [hlink, hgeometry]; exact h), hgeometry, h]
  cases he : (s.changeState .founding).link.edgeSeen with
  | true =>
    obtain ⟨hsilence, -⟩ := changeState_link_frame s .founding
    unfold State.found State.driveMark
    rw [leadingEdge_seen _ he]
    exact hsilence
  | false =>
    unfold State.found State.driveMark
    rw [leadingEdge_new he]
    exact hreleased

/-! ### Loss of sync -/

theorem loseSync_of_synced {s : State} (h : s.link.synced = true) :
    s.loseSync = { s.endLine with link := { s.endLine.link with synced := false } } := if_pos h

theorem loseSync_lineOver {s : State} (h : s.link.synced = true) : s.LineOver s.loseSync := by
  rw [loseSync_of_synced h]
  exact { endLine_lineOver s with }

theorem loseSync_link (s : State) : s.loseSync.link = { s.link with synced := false } := by
  cases h : s.link.synced with
  | true => rw [loseSync_of_synced h, endLine_eq]
  | false => rw [loseSync_unsynced s h, ← h]

theorem loseSync_port (s : State) : s.loseSync.port = s.port := by
  cases h : s.link.synced with
  | true => rw [loseSync_of_synced h, endLine_eq]
  | false => rw [loseSync_unsynced s h]

theorem loseSync_member (s : State) : s.loseSync.member = { s.member with announce := s.loseSync.member.announce } := by
  cases h : s.link.synced with
  | true => rw [loseSync_of_synced h, endLine_eq]
  | false => rw [loseSync_unsynced s h]

/-- A silence count at its limit costs a station its sync; one in LISTEN then founds the link (R32, R54). -/
theorem atSilenceLimit_at {s : State} (h : 2 * s.geometry.totalLines ≤ s.link.silenceCount) :
    s.atSilenceLimit = if s.member.own = .listen then s.loseSync.found else s.loseSync := if_pos h

/-! ### The leading edge and the line past its end -/

theorem exec_lmarkLeadingEdge {s : State} (h : s.resetPin = false) : exec .lmarkLeadingEdge s = .next s.leadingEdge :=
  happening_of h rfl

/-- A mark taken is its leading edge, and then the mark (R24; log entry 5). -/
theorem takeMark_leadingEdge (s : State) (seen : MarkKind) : s.leadingEdge.takeMark seen = s.takeMark seen := by
  simp only [State.takeMark, leadingEdge_seen _ (leadingEdge_edgeSeen s)]

/-- Settles O21: an edge that is part of the standing assertion changes nothing, a new one ends the line in hand. -/
theorem leadingEdgeCutsTheLine : Obligations.LeadingEdgeCutsTheLine := by
  unfold Obligations.LeadingEdgeCutsTheLine
  refine ⟨fun s hp => ⟨fun he => ?_, fun he hl => ?_⟩, fun s kind hp he hl => ?_, fun s t hp he ht => ?_, fun s hpast => ?_⟩
  · rw [exec_lmarkLeadingEdge hp, leadingEdge_seen s he]
  · rw [exec_lmarkLeadingEdge hp, leadingEdge_new he, releaseMark_none hl, State.cutWindow]
    cases s.claim.window <;> rfl
  · intro ended
    have hended : ended = s.reach (markLength kind) := by cases kind <;> rfl
    have hframe := reach_linkFrame s (markLength kind)
    obtain ⟨-, -, -, -, -, -, -, -, -, -, -, -, -, -, -, -, -, -, hedge, -⟩ := reach_frame s (markLength kind)
    have hreleased : s.releaseMark = { ended with link := { ended.link with lmark := none } } := by
      rw [hended, releaseMark_some hl]
    have hagain : ({ ended with link := { ended.link with lmark := none } } : State).leadingEdge =
        ({ ended with link := { ended.link with lmark := none } } : State).startLine := by
      rw [State.leadingEdge, if_neg, releaseMark_none rfl]
      rw [hended, hedge, he]
      exact Bool.false_ne_true
    rw [exec_lmarkLeadingEdge hp, exec_lmarkLeadingEdge (by rw [hended]; exact hframe.resetPin.trans hp), hagain, State.leadingEdge,
      if_neg (Bool.eq_false_iff.1 he), hreleased]
  · rw [exec_lmarkLeadingEdge hp] at ht
    cases ht
    have hpin := (leadingEdge_linkFrame s).resetPin.trans hp
    rw [exec_lineMark hp, exec_lineMark hpin, exec_frameMark hp, exec_frameMark hpin, takeMark_leadingEdge, takeMark_leadingEdge]
    exact ⟨rfl, rfl⟩
  · have hholds : s.lineHolds = false := decide_eq_false hpast.not_gt
    have hfield : (s.link.synced && s.lineHolds) = false := by rw [hholds, Bool.and_false]
    have hcolumn : s.columnDue = false := by simp only [State.columnDue, hholds, Bool.and_false, Bool.false_and]
    exact ⟨fun others => ⟨happening_off (f := fun s => s.frameWordEnds others) hfield,
        happening_off (f := fun s => s.announcePlaceEnds others) hfield⟩,
      fun bids held => happening_off (f := fun s => s.claimRoundEnds bids held) hholds,
      fun rivals held join => happening_off (f := fun s => s.columnResolved rivals held join) hcolumn⟩

/-! ### The line timer -/

theorem exec_lineTimerRunsOut {s : State} (h : s.resetPin = false) (hdue : s.timerDue = true) :
    exec .lineTimerRunsOut s = .next s.timerRunsOut := happening_of h hdue

/-- The kind of the mark a station drives as its timer runs out (R30). -/
def State.ownMark (s : State) : MarkKind := if s.link.lineCounter + 1 = s.geometry.totalLines then .frame else .line

theorem ownMark_frame (s : State) : (s.ownMark == .frame) = decide (s.link.lineCounter + 1 = s.geometry.totalLines) := by
  unfold State.ownMark
  split <;> simp_all

/-- The timer runs out: what it lacks passes, and the mark is driven. -/
theorem timerRunsOut_eq {s : State} {time : Nat} (h : s.link.lineTimer = some time) :
    s.timerRunsOut = (s.passTime (s.geometry.linePixels - time)).driveMark s.ownMark := by
  unfold State.timerRunsOut
  rw [h]
  rfl

/-- The timer runs out where no edge has been seen: the station makes the leading edge of its mark itself (R30). -/
theorem timerRunsOut_new {s : State} {time : Nat} (ht : s.link.lineTimer = some time) (he : s.link.edgeSeen = false) :
    s.LinkFrame s.timerRunsOut ∧ s.LineOver s.timerRunsOut ∧ s.timerRunsOut.link.lmark = some s.ownMark ∧
    s.timerRunsOut.link.frameDriven = (s.ownMark == .frame) ∧
    s.timerRunsOut.link.lineTimer = some s.geometry.linePixels ∧ s.timerRunsOut.link.edgeSeen = true ∧
    s.timerRunsOut.link.pixelTime = 0 ∧ s.timerRunsOut.output.hsync = true ∧
    s.timerRunsOut.link.synced = s.link.synced ∧ s.timerRunsOut.member = { s.member with announce := none } ∧
    s.timerRunsOut.port = s.port := by
  rw [timerRunsOut_eq ht]
  have hnew : (s.passTime (s.geometry.linePixels - time)).link.edgeSeen = false := he
  have htimer : (s.passTime (s.geometry.linePixels - time)).link.lineTimer = some s.geometry.linePixels := by
    have hlimit : s.geometry.linePixels ≤ time + (s.geometry.linePixels - time) := by omega
    rw [State.passTime_link_lineTimer, ht, Option.map_some, Nat.min_eq_left hlimit]
  obtain ⟨hsynced, hlimit, -⟩ := releaseMark_clocks (s.passTime (s.geometry.linePixels - time))
  refine ⟨(passTime_linkFrame s _).trans (driveMark_linkFrame _ _), (driveMark_lineOver hnew _).after rfl rfl rfl rfl, rfl, rfl,
    ?_, leadingEdge_edgeSeen _, ?_⟩
  · exact (congrArg (fun t : State => t.link.lineTimer) (leadingEdge_new hnew)).trans (hlimit htimer)
  · unfold State.driveMark
    rw [leadingEdge_new hnew]
    exact ⟨rfl, rfl, hsynced, rfl, rfl⟩

/-- The timer that stands at the line length at the pixel time of another station's edge runs out into that assertion (R31). -/
theorem timerRunsOut_seen {s : State} (ht : s.link.lineTimer = some s.geometry.linePixels) (he : s.link.edgeSeen = true) :
    s.timerRunsOut = { s.passTime 0 with
      link := { (s.passTime 0).link with lmark := some s.ownMark, frameDriven := s.ownMark == .frame } } := by
  rw [timerRunsOut_eq ht, Nat.sub_self]
  exact driveMark_seen (s.passTime 0) s.ownMark he

/-! ### The silence count -/

/-- The station as its silence count stands at 2 × T, before it acts on it (R32). -/
def State.atLimit (s : State) : State :=
  { s.passTime s.silenceLeft with
    link := { (s.passTime s.silenceLeft).link with silenceCount := 2 * s.geometry.totalLines } }

theorem silenceReached_eq (s : State) :
    s.silenceReached = if s.member.own = .listen then s.atLimit.loseSync.found else s.atLimit.loseSync :=
  atSilenceLimit_at (s := s.atLimit) le_rfl

theorem silenceReached_linkFrame (s : State) : s.LinkFrame s.silenceReached :=
  State.LinkFrame.trans (t := s.atLimit) (by constructor <;> rfl) (atSilenceLimit_linkFrame _)

/-- The sync is lost, and the count stands at 2 × T (R32). -/
theorem silenceReached_link (s : State) :
    s.silenceReached.link.synced = false ∧ s.silenceReached.link.silenceCount = 2 * s.geometry.totalLines := by
  have hcount : s.atLimit.loseSync.link.silenceCount = 2 * s.geometry.totalLines := by rw [loseSync_link]; rfl
  rw [silenceReached_eq]
  split
  · obtain ⟨-, -, hsynced, -, -⟩ := found_link s.atLimit.loseSync
    have hgeometry := (loseSync_linkFrame s.atLimit).geometry
    exact ⟨hsynced.trans (loseSync_synced _), (found_silenceCount (.inr (by rw [hcount, hgeometry]; rfl))).trans hcount⟩
  · exact ⟨loseSync_synced _, hcount⟩

/-- A station in LISTEN founds the link (R54). -/
theorem silenceReached_listen {s : State} (h : s.member.own = .listen) :
    s.silenceReached.link.lmark = some .frame ∧ s.silenceReached.link.edgeSeen = true ∧
    s.silenceReached.link.lineTimer = some s.silenceReached.link.pixelTime ∧
    s.silenceReached.link.pixelTime = (if s.link.edgeSeen then s.link.pixelTime + s.silenceLeft else 0) ∧
    s.silenceReached.port.events = { s.port.events with state := oneMore s.port.events.state } ∧
    s.silenceReached.member = { s.member with
      own := .founding, listenCount := 0, windowWait := 0, admitted := false, detachPending := false
      announce := s.silenceReached.member.announce } := by
  rw [silenceReached_eq, if_pos h]
  obtain ⟨hlmark, hedge, -, htimer, htime⟩ := found_link s.atLimit.loseSync
  refine ⟨hlmark, hedge, htimer, ?_, ?_, ?_⟩
  · rw [htime, loseSync_link]
    rfl
  · rw [found_port, loseSync_port]
    exact raise_state _
  · rw [found_member, loseSync_member]
    rfl

/-- A station in any other state keeps it. -/
theorem silenceReached_other {s : State} (h : s.member.own ≠ .listen) :
    s.silenceReached.link = { s.atLimit.link with synced := false } ∧ s.silenceReached.port = s.port ∧
    s.silenceReached.member = { s.member with announce := s.silenceReached.member.announce } := by
  rw [silenceReached_eq, if_neg h]
  exact ⟨loseSync_link _, loseSync_port _, loseSync_member _⟩

/-- Into an assertion that stands, no new line starts. -/
theorem silenceReached_seen {s : State} (h : s.link.edgeSeen = true) :
    s.silenceReached.link.edgeSeen = true ∧ s.silenceReached.link.pixelTime = s.link.pixelTime + s.silenceLeft := by
  by_cases hown : s.member.own = .listen
  · obtain ⟨-, hedge, -, htime, -⟩ := silenceReached_listen hown
    rw [h] at htime
    exact ⟨hedge, htime⟩
  · obtain ⟨hlink, -⟩ := silenceReached_other hown
    rw [hlink]
    exact ⟨h, rfl⟩

/-- The line in hand is over at a station that was synced, and where a mark driven makes a leading edge (log entry 19). -/
theorem silenceReached_lineOver {s : State}
    (h : s.link.synced = true ∨ (s.member.own = .listen ∧ s.link.edgeSeen = false)) : s.LineOver s.silenceReached := by
  have hafter : ∀ {u : State}, s.atLimit.LineOver u → s.LineOver u := fun hu => hu.after rfl rfl rfl rfl
  rw [silenceReached_eq]
  cases hs : s.link.synced with
  | true =>
    have hlost := loseSync_lineOver (s := s.atLimit) hs
    split
    · exact hafter hlost.found
    · exact hafter hlost
  | false =>
    obtain hn | ⟨hown, he⟩ := h
    · exact absurd_true hs hn
    · rw [if_pos hown, loseSync_unsynced s.atLimit hs]
      exact hafter (found_lineOver he)

/-- At an unsynced station that drives no mark into a new line, nothing of the line changes. -/
theorem silenceReached_lineKept {s : State} (hs : s.link.synced = false)
    (h : s.member.own = .listen → s.link.edgeSeen = true) :
    s.silenceReached.claim = s.claim ∧ s.silenceReached.lines = s.lines ∧ s.silenceReached.picks = s.picks := by
  rw [silenceReached_eq, loseSync_unsynced s.atLimit hs]
  split
  · rename_i hown
    exact found_seen (s := s.atLimit) (h hown)
  · exact ⟨rfl, rfl, rfl⟩

theorem exec_silenceCountLimit {s : State} (h : s.resetPin = false) (hdue : s.silenceDue = true) :
    exec .silenceCountLimit s = .next s.silenceReached := happening_of h hdue

/-- Settles O25: what each clock brings, with a leading edge of its own and into an assertion that stands. -/
theorem linkClocksRunOut : Obligations.LinkClocksRunOut := by
  unfold Obligations.LinkClocksRunOut
  refine ⟨fun s time hp ht he => ?_, fun s time hp ht he => ⟨fun h => ?_, fun h0 hlimit => ?_⟩, fun s hp ht he => ?_,
    fun s hp ht he => ?_⟩
  · obtain ⟨hframe, hover, hlmark, hdriven, htimer, hedge, htime, hhsync, hsynced, hmember, hport⟩ := timerRunsOut_new ht he
    have hclosed : s.timerRunsOut.claim.window = none := hover.claim ▸ cutWindow_window s
    refine ⟨_, exec_lineTimerRunsOut hp ((timerDue_iff s).2 ⟨time, ht, .inl he⟩), hlmark, hdriven.trans (ownMark_frame s), htimer,
      hedge, htime, hhsync, hframe.lineCounter, hframe.frameNumber, hsynced, hclosed, by rw [hover.lines], by rw [hover.lines],
      hover.claim.trans (congrArg State.claim (cutWindow_eq s)), hover.lines, hover.picks, hmember, hframe.table, hframe.tints,
      hframe.surface, hframe.engine, hport, hframe.collisions, hframe.grants, hframe.palette, hframe.points, hframe.records⟩
  · have hdue : s.timerDue = false := Bool.eq_false_iff.2 fun hdue => by
      obtain ⟨t, hs, hn | ⟨hzero, hline⟩⟩ := (timerDue_iff s).1 hdue
      · exact absurd_true hn he
      · cases ht.symm.trans hs
        exact h.elim (absurd hzero) (absurd hline)
    exact happening_off hdue
  · rw [hlimit] at ht
    refine ⟨_, exec_lineTimerRunsOut hp ((timerDue_iff s).2 ⟨_, ht, .inr ⟨h0, rfl⟩⟩), ?_⟩
    rw [timerRunsOut_seen ht he]
    refine ⟨rfl, ownMark_frame s, ?_, he, h0, rfl, rfl, rfl, ?_, rfl, rfl, rfl, rfl, rfl, rfl, rfl, rfl, rfl, rfl, rfl⟩
    · rw [State.passTime_link_lineTimer, ht, hlimit]
      exact congrArg some (Nat.min_self _)
    · rw [State.passTime_output_hsync, h0]
      exact Bool.and_true _
  · have hdue : s.silenceDue = true := by simp [State.silenceDue, ht, he]
    have hframe := silenceReached_linkFrame s
    obtain ⟨hsynced, hcount⟩ := silenceReached_link s
    have hover : s.link.synced = true ∨ s.member.own = .listen → s.LineOver s.silenceReached :=
      fun h => silenceReached_lineOver (h.imp_right fun hown => ⟨hown, he⟩)
    refine ⟨_, exec_silenceCountLimit hp hdue, hsynced, hcount, hframe.lineCounter, hframe.frameNumber, fun hown => ?_,
      fun hown => ?_, fun hs => ?_, fun h => ?_, fun hs hown => silenceReached_lineKept hs fun h => absurd h hown,
      fun hown => ?_, fun hown => ?_, hframe.members, hframe.table, hframe.tints, hframe.surface, hframe.engine,
      hframe.collisions, hframe.points, hframe.records, hframe.palette⟩
    · obtain ⟨hlmark, hedge, htimer, htime, hevents, hmember⟩ := silenceReached_listen hown
      rw [he] at htime
      exact ⟨by rw [hmember], by rw [hmember], hlmark, hedge, htime, htimer.trans (congrArg some htime), hevents⟩
    · obtain ⟨hlink, hport, hmember⟩ := silenceReached_other hown
      rw [hlink, hport]
      exact ⟨by rw [hmember], congrArg (Option.map _) ht, he, rfl⟩
    · obtain ⟨hclaim, hlines, -, hannounce⟩ := hover (.inl hs)
      exact ⟨hclaim ▸ cutWindow_window s, by rw [hlines], by rw [hlines], hannounce⟩
    · obtain ⟨hclaim, hlines, hpicks, -⟩ := hover h
      exact ⟨hclaim.trans (congrArg State.claim (cutWindow_eq s)), hlines, hpicks⟩
    · obtain ⟨-, -, -, -, -, hmember⟩ := silenceReached_listen hown
      exact hmember
    · obtain ⟨-, -, hmember⟩ := silenceReached_other hown
      exact hmember
  · intro left
    have hdue : s.silenceDue = decide (s.link.pixelTime + left < 4) := by
      simp only [State.silenceDue, ht, he]
      rfl
    refine ⟨fun h => happening_off (hdue.trans (decide_eq_false h.not_gt)), fun h => ?_⟩
    have hframe := silenceReached_linkFrame s
    obtain ⟨hsynced, hcount⟩ := silenceReached_link s
    obtain ⟨hseen, htime⟩ := silenceReached_seen he
    refine ⟨_, exec_silenceCountLimit hp (hdue.trans (decide_eq_true h)), hsynced, hcount, hframe.lineCounter, hframe.frameNumber,
      hseen, htime, fun hown => ?_, fun hown => ?_, fun hs => ?_, fun hs => silenceReached_lineKept hs fun _ => he,
      fun hown => ?_, fun hown => ?_, hframe.members, hframe.table, hframe.tints, hframe.surface, hframe.engine,
      hframe.collisions, hframe.points, hframe.records, hframe.palette⟩
    · obtain ⟨hlmark, -, htimer, -, hevents, hmember⟩ := silenceReached_listen hown
      exact ⟨by rw [hmember], by rw [hmember], hlmark, htimer, hevents⟩
    · obtain ⟨hlink, hport, hmember⟩ := silenceReached_other hown
      rw [hlink]
      exact ⟨by rw [hmember], congrArg (Option.map _) ht, hport⟩
    · obtain ⟨hclaim, hlines, hpicks, hannounce⟩ := silenceReached_lineOver (.inl hs)
      exact ⟨hclaim.trans (congrArg State.claim (cutWindow_eq s)), hlines, hpicks, hannounce⟩
    · obtain ⟨-, -, -, -, -, hmember⟩ := silenceReached_listen hown
      exact hmember
    · obtain ⟨-, -, hmember⟩ := silenceReached_other hown
      exact hmember

/-! ### The frame word -/

/-- Settles O26: the frame word at its pixel time, as `readFrameWord_eq` writes it out. -/
theorem frameWordIsAdopted : Obligations.FrameWordIsAdopted := by
  unfold Obligations.FrameWordIsAdopted
  refine ⟨fun own => by cases own <;> simp [OwnState.drives], fun s w others hp hs hline ha hw => ?_⟩
  intro driven read
  have hacts : exec (.frameWord others) s = .next ((s.reach frameWordEnd).readFrameWord w others) := by
    have henabled : (s.link.synced && s.lineHolds) = true := Bool.and_eq_true_iff.2 ⟨hs, decide_eq_true hline⟩
    refine (happening_of (f := fun s => s.frameWordEnds others) hp henabled).trans ?_
    simp only [State.frameWordEnds, ha, hw, Bool.false_eq_true, if_false]
  obtain ⟨-, -, hport, htable, htints, hmember, hclaim, hlines, hcollisions, hpicks, hsurface, -, hengine, -, -, hcounter,
    hframe, hsynced, -⟩ := reach_frame s frameWordEnd
  have hdriven : (s.reach frameWordEnd).frameWordDriven = driven := by rw [State.frameWordDriven, hmember, hframe]; rfl
  have hread : (s.reach frameWordEnd).frameWordRead others = read := by rw [State.frameWordRead, hdriven]; rfl
  refine ⟨_, hacts, ?_⟩
  rw [readFrameWord_eq, hdriven, hread, hmember, hport, hframe]
  refine ⟨rfl, rfl, reach_pixelTime s frameWordEnd, fun hd hslip => ?_, fun h => ?_, rfl, hcounter, hsynced.trans hs, htable,
    htints, hclaim, hlines, hsurface, hengine, hcollisions, hpicks, rfl, rfl⟩
  · have hraised : (s.member.own.drives && read != s.link.frameNumber) = true :=
      Bool.and_eq_true_iff.2 ⟨hd, bne_iff_ne.2 hslip⟩
    exact (if_pos hraised).trans (congrArg (fun n => { s.port.events with slip := n }) (saturate_oneMore _))
  · refine if_neg fun hraised => ?_
    obtain ⟨hd, hslip⟩ := Bool.and_eq_true_iff.1 hraised
    exact h.elim (absurd_false hd) (absurd · (bne_iff_ne.1 hslip))

/-! ### REJOIN -/

/-- A window held counts as the station enters LISTEN where its frame word is still to begin (R52, R65). -/
theorem entering_listen (time : Nat) (w : AnnounceWindow) :
    w.entering .listen time = { w with listening := !w.wordRead && decide (time < 8) } := by
  have hcounts : (w.entering .listen time).listening = (!w.wordRead && decide (time < 8)) := by
    rw [Bool.eq_iff_iff, entering_listening]
    simp
  rw [← hcounts]
  rfl

/-- The silence count as a station enters LISTEN is as it was (R65). -/
theorem listen_silenceCount (s : State) : (s.changeState .listen).link.silenceCount = s.link.silenceCount := by
  rw [changeState_link_silent s _ rfl]

/-- A station that enters LISTEN on a link that is not silent is in LISTEN, with its line going on (R52, R65). -/
theorem listen_below {s : State} (h : s.link.silenceCount < 2 * s.geometry.totalLines) :
    (s.changeState .listen).atSilenceLimit = s.changeState .listen := by
  have hgeometry := (changeState_linkFrame s .listen).geometry
  exact atSilenceLimit_below _ (by rwa [listen_silenceCount, hgeometry])

/-- On a silent link it has lost its sync, and founds (R32, R54). -/
theorem listen_at {s : State} (h : 2 * s.geometry.totalLines ≤ s.link.silenceCount) :
    (s.changeState .listen).atSilenceLimit = (s.changeState .listen).loseSync.found := by
  have hgeometry := (changeState_linkFrame s .listen).geometry
  have hown : (s.changeState .listen).member.own = .listen := by rw [changeState_member]
  rw [atSilenceLimit_at (by rwa [listen_silenceCount, hgeometry]), if_pos hown]

/-- Either way its counts are 0, and the silence count is as it was. -/
theorem listen_counts (s : State) :
    (s.changeState .listen).atSilenceLimit.member.listenCount = 0 ∧
    (s.changeState .listen).atSilenceLimit.member.windowWait = 0 ∧
    (s.changeState .listen).atSilenceLimit.link.silenceCount = s.link.silenceCount := by
  obtain h | h := Nat.lt_or_ge s.link.silenceCount (2 * s.geometry.totalLines)
  · rw [listen_below h, changeState_member]
    exact ⟨rfl, rfl, listen_silenceCount s⟩
  · have hlmark : (s.changeState .listen).loseSync.link.lmark = none := by
      rw [loseSync_link, changeState_link_silent s _ rfl]
    rw [listen_at h, found_member, found_silenceCount (.inl hlmark), loseSync_link]
    exact ⟨rfl, rfl, listen_silenceCount s⟩

/-- Settles O32: the station enters LISTEN, and acts on a silence count that stands at its limit. -/
theorem rejoinEntersListen : Obligations.RejoinEntersListen := by
  unfold Obligations.RejoinEntersListen
  intro s tag rest h
  have hacts : exec .rejoin s = .next ((s.without rest).rejoin (.ordinary 0x63#8 tag [])) :=
    taking_of h (runs_ordinary (c := .rejoin) rfl rfl)
  refine ⟨fun hown => ?_, fun hown => ?_⟩
  · rw [hacts]
    obtain hown | hown | hown | hown := hown
    all_goals
      simp only [State.rejoin, State.without_member, hown]
      rfl
  · have hlistens : (s.without rest).rejoin (.ordinary 0x63#8 tag []) =
        (((s.without rest).changeState .listen).atSilenceLimit).answer (.ordinary 0x63#8 tag []) .ok [] := by
      obtain hown | hown | hown := hown
      all_goals simp only [State.rejoin, State.without_member, hown]
    have hframe := (changeState_linkFrame (s.without rest) .listen).trans (atSilenceLimit_linkFrame _)
    obtain ⟨hlisten, hwait, hsilence⟩ := listen_counts (s.without rest)
    refine ⟨_, hacts.trans (congrArg Host.Outcome.next hlistens), hlisten, hwait, hframe.members, hframe.lineCounter,
      hframe.frameNumber, hsilence, hframe.commands, congrArg (· ++ [_]) hframe.responses, hframe.table, hframe.tints,
      hframe.surface, hframe.engine, hframe.palette, hframe.collisions, hframe.points, hframe.records, fun hbelow => ?_,
      fun hat => ?_⟩
    · obtain ⟨-, -, -, -, hclaim, hlines, -⟩ := changeState_frame (s.without rest) .listen
      obtain ⟨-, -, -, -, hsynced, -⟩ := changeState_link_frame (s.without rest) .listen
      rw [listen_below (s := s.without rest) hbelow]
      refine ⟨congrArg Membership.own (changeState_member _ _), hclaim, hlines, ?_, ?_, ?_, ?_⟩
      · exact congrArg LinkTiming.lineTimer (changeState_link_silent _ _ rfl)
      · exact hsynced
      · refine (congrArg Membership.announce (changeState_member _ _)).trans (Option.map_congr fun w _ => ?_)
        exact entering_listen s.link.pixelTime w
      · exact (congrArg Port.events (changeState_port _ _)).trans (raise_state _)
    · obtain ⟨hlmark, hedge, hsynced, -⟩ := found_link ((s.without rest).changeState .listen).loseSync
      rw [listen_at (s := s.without rest) hat]
      refine ⟨congrArg Membership.own (found_member _), hlmark, hedge, hsynced.trans (loseSync_synced _), fun hs => ?_, ?_⟩
      · have hstill : ((s.without rest).changeState .listen).link.synced = true := by
          rw [changeState_link_silent _ _ rfl]
          exact hs
        obtain ⟨hclaim, hlines, -, hannounce⟩ := (loseSync_lineOver hstill).found
        refine ⟨?_, congrArg Assembler.fetching hlines, congrArg Assembler.column hlines, hannounce⟩
        exact (congrArg ClaimUnit.window hclaim).trans (cutWindow_window _)
      · refine (congrArg Port.events (found_port _)).trans ?_
        rw [loseSync_port, changeState_port, raise_state, raise_state]
        rfl

end Sys2Proof.Machine
end

section
/-! SUPPORT. The announce places: the entry a place leaves, the readback of the own place, and the end of a window. -/

namespace Sys2Proof.Machine

/-! ### The entry of a place (R49, R50) -/

theorem placeHeard_iff (w : Lines) : placeHeard w = true ↔ w.extractLsb' 0 8 ≠ 0xFF#8 := bne_iff_ne

/-- A heard place makes its entry present, with what was announced (R49). -/
theorem take_heard {w : Lines} (h : w.extractLsb' 0 8 ≠ 0xFF#8) (frame : Byte) (e : MemberEntry) :
    e.take frame w = { present := true, code := w.extractLsb' 0 8, joining := w.getLsbD 8, nonce := w.extractLsb' 9 7, missed := 0,
                       framePresent := if e.present then e.framePresent else frame } :=
  if_pos ((placeHeard_iff w).2 h)

/-- A place not heard misses its entry once more (R50). -/
theorem take_notHeard {w : Lines} (h : ¬w.extractLsb' 0 8 ≠ 0xFF#8) (frame : Byte) (e : MemberEntry) :
    e.take frame w = e.miss :=
  if_neg (mt (placeHeard_iff w).1 h)

theorem miss_absent {e : MemberEntry} (h : e.present = false) : e.miss = e := by
  simp [MemberEntry.miss, h]

theorem miss_again {e : MemberEntry} (h : e.present = true) (hm : e.missed < 3) :
    e.miss = { e with missed := e.missed + 1 } := by
  simp [MemberEntry.miss, h, hm]

theorem miss_last {e : MemberEntry} (h : e.present = true) (hm : 3 ≤ e.missed) :
    e.miss = { e with present := false, missed := 0 } := by
  simp [MemberEntry.miss, h, hm.not_gt]

/-- MEMBERS raised once is one more count of it. -/
theorem raise_members (e : Events) : e.raise .members = { e with members := oneMore e.members } :=
  congrArg (fun n => { e with members := n }) (saturate_oneMore _)

/-- What the end of a place does to the Event Set (R49, R50). -/
def placeEvents (old new : Bool) (e : Events) : Events := if old != new then e.raise .members else e

theorem placeEvents_changed {old new : Bool} (h : new ≠ old) (e : Events) :
    placeEvents old new e = { e with members := oneMore e.members } :=
  (if_pos (bne_iff_ne.2 h.symm)).trans (raise_members e)

theorem placeEvents_same {old new : Bool} (h : new = old) (e : Events) : placeEvents old new e = e := by
  simp [placeEvents, h]

/-- A place raises no other event. -/
theorem placeEvents_state (old new : Bool) (e : Events) : (placeEvents old new e).state = e.state := by
  unfold placeEvents
  split <;> rfl

/-! ### What the end of a place leaves as it was -/

/-- What the readback of a place, the next place and the end of a window leave as it was, once the Member Table has taken the
place. -/
structure State.PlaceFrame (s t : State) : Prop where
  table : t.table = s.table
  claim : t.claim = s.claim
  surface : t.surface = s.surface
  engine : t.engine = s.engine
  picks : t.picks = s.picks
  collisions : t.collisions = s.collisions
  members : t.member.members = s.member.members
  nonceDraws : t.member.nonceDraws = s.member.nonceDraws
  pixelTime : t.link.pixelTime = s.link.pixelTime
  lineCounter : t.link.lineCounter = s.link.lineCounter
  frameNumber : t.link.frameNumber = s.link.frameNumber
  synced : t.link.synced = s.link.synced
  membersEvents : t.port.events.members = s.port.events.members

theorem State.PlaceFrame.refl (s : State) : s.PlaceFrame s := by constructor <;> rfl

theorem State.PlaceFrame.trans {s t u : State} (h : s.PlaceFrame t) (k : t.PlaceFrame u) : s.PlaceFrame u where
  table := k.table.trans h.table
  claim := k.claim.trans h.claim
  surface := k.surface.trans h.surface
  engine := k.engine.trans h.engine
  picks := k.picks.trans h.picks
  collisions := k.collisions.trans h.collisions
  members := k.members.trans h.members
  nonceDraws := k.nonceDraws.trans h.nonceDraws
  pixelTime := k.pixelTime.trans h.pixelTime
  lineCounter := k.lineCounter.trans h.lineCounter
  frameNumber := k.frameNumber.trans h.frameNumber
  synced := k.synced.trans h.synced
  membersEvents := k.membersEvents.trans h.membersEvents

theorem changeState_placeFrame (s : State) (new : OwnState) : s.PlaceFrame (s.changeState new) := by
  obtain ⟨-, -, hcounter, hframe, hsynced, htime, -⟩ := changeState_link_frame s new
  rw [changeState_eq]
  constructor
  case pixelTime => exact htime
  case lineCounter => exact hcounter
  case frameNumber => exact hframe
  case synced => exact hsynced
  all_goals rfl

/-! ### The end of a window (R46, R52, R53, R55, R61) -/

/-- A window that is complete, before what it decides. -/
def State.windowEnded (s : State) : State := { s with member := { s.member with announce := none, windowWait := 0 } }

/-- The join decision leaves LISTEN (R53). -/
theorem joinDecision_leaves (s : State) (heard : List Nat) : s.joinDecision heard ≠ .listen := by
  unfold State.joinDecision
  split
  · nofun
  · split
    · nofun
    · split <;> nofun

/-- The end of a window leaves the own state as it was, with one more listen count in LISTEN, or it brings a station in LISTEN or
MEMBER to another state. -/
theorem completeWindow_cases (s : State) (w : AnnounceWindow) :
    s.completeWindow w = s.windowEnded ∨
    (s.member.own = .listen ∧ s.completeWindow w = { s.windowEnded with
      member := { s.windowEnded.member with listenCount := s.member.listenCount + 1 } }) ∨
    ((s.member.own = .listen ∨ s.member.own = .member) ∧
      ∃ new, new ≠ s.member.own ∧ s.completeWindow w = s.windowEnded.changeState new) := by
  unfold State.completeWindow
  extract_lets s1
  split
  · rename_i hlisten
    have hown : s.member.own = .listen := beq_iff_eq.1 (Bool.and_eq_true_iff.1 hlisten).1
    unfold State.countListen
    split
    · exact .inr (.inr ⟨.inl hown, _, hown ▸ joinDecision_leaves _ _, rfl⟩)
    · exact .inr (.inl ⟨hown, rfl⟩)
  · split
    · rename_i hmember
      have hown : s.member.own = .member := beq_iff_eq.1 hmember
      unfold State.agreementTest
      split
      · exact .inr (.inr ⟨.inr hown, .refused, by rw [hown]; nofun, rfl⟩)
      · exact .inl rfl
    · exact .inl rfl

/-- A station in neither LISTEN nor MEMBER decides nothing at the end of a window (R58). -/
theorem completeWindow_other {s : State} (hl : s.member.own ≠ .listen) (hm : s.member.own ≠ .member) (w : AnnounceWindow) :
    s.completeWindow w = s.windowEnded := by
  obtain h | ⟨h, -⟩ | ⟨h | h, -⟩ := completeWindow_cases s w
  · exact h
  · exact absurd h hl
  · exact absurd h hl
  · exact absurd h hm

/-- A window that leaves the own state as it was leaves all of the Membership Unit so but the window, its wait, and in LISTEN the
listen count. -/
theorem completeWindow_same {s : State} {w : AnnounceWindow} (h : (s.completeWindow w).member.own = s.member.own) :
    s.completeWindow w = { s.windowEnded with member := { s.windowEnded.member with
      listenCount := if s.member.own = .listen then (s.completeWindow w).member.listenCount else s.member.listenCount } } := by
  obtain heq | ⟨hown, heq⟩ | ⟨-, new, hnew, heq⟩ := completeWindow_cases s w
  · rw [heq]
    split <;> rfl
  · rw [heq, if_pos hown]
  · rw [heq, changeState_member] at h
    exact absurd h hnew

theorem completeWindow_placeFrame (s : State) (w : AnnounceWindow) : s.PlaceFrame (s.completeWindow w) := by
  have hended : s.PlaceFrame s.windowEnded := by constructor <;> rfl
  obtain heq | ⟨-, heq⟩ | ⟨-, new, -, heq⟩ := completeWindow_cases s w <;> rw [heq]
  · exact hended
  · exact { hended with }
  · exact hended.trans (changeState_placeFrame _ new)

/-- Whatever a window decides, it is over, and the window wait count is 0 (R46, R55). -/
theorem completeWindow_over (s : State) (w : AnnounceWindow) :
    (s.completeWindow w).member.announce = none ∧ (s.completeWindow w).member.windowWait = 0 := by
  obtain heq | ⟨-, heq⟩ | ⟨-, new, -, heq⟩ := completeWindow_cases s w <;> rw [heq]
  · exact ⟨rfl, rfl⟩
  · exact ⟨rfl, rfl⟩
  · rw [changeState_member]
    exact ⟨rfl, rfl⟩

/-- What nothing drives stays so, whatever a window decides (R43). -/
theorem completeWindow_released {s : State} (h : s.link.ldata = released) (w : AnnounceWindow) :
    (s.completeWindow w).link.ldata = released := by
  obtain heq | ⟨-, heq⟩ | ⟨-, new, -, heq⟩ := completeWindow_cases s w <;> rw [heq]
  · exact h
  · exact h
  · cases hd : new.drives with
    | true =>
      rw [changeState_link_drives _ new hd]
      exact h
    | false => rw [changeState_link_silent _ new hd]

/-! ### The next place -/

theorem nextPlace_goes {s : State} {w : AnnounceWindow} (h : w.place < 8) :
    s.nextPlace w = { s with member := { s.member with announce := some w } } := if_pos h

theorem nextPlace_ends {s : State} {w : AnnounceWindow} (h : w.place = 8) : s.nextPlace w = s.completeWindow w :=
  if_neg h.not_lt

theorem nextPlace_placeFrame (s : State) (w : AnnounceWindow) : s.PlaceFrame (s.nextPlace w) := by
  unfold State.nextPlace
  split
  · constructor <;> rfl
  · exact completeWindow_placeFrame s w

/-! ### A place the station does not drive -/

/-- What stands once the Member Table has taken a place that the station does not drive, at the end of that place. -/
def State.otherPlaceTaken (s : State) (n : Nat) (others : Lines) : State :=
  ((s.reach (placeEnd n)).drive released).takePlace n others

/-- The link as the Member Table takes it: the position is the place's end, and the station drives nothing (R28, R44). -/
theorem otherPlaceTaken_eq (s : State) (n : Nat) (others : Lines) :
    s.otherPlaceTaken n others = { s.reach (placeEnd n) with
      port := { s.port with
        events := placeEvents (s.member.members.getD n .absent).present (s.entryTaken n others).present s.port.events }
      link := { (s.reach (placeEnd n)).link with ldata := released, ldataJoin := released }
      member := { s.member with members := s.member.members.set n (s.entryTaken n others) } } := by
  obtain ⟨-, -, hport, -, -, hmember, -, -, -, -, -, -, -, -, -, -, hframe, -⟩ := reach_frame s (placeEnd n)
  have hentry : ((s.reach (placeEnd n)).drive released).entryTaken n others = s.entryTaken n others := by
    rw [State.entryTaken, State.drive_member, State.drive_link, hmember, hframe]
    rfl
  rw [State.otherPlaceTaken, takePlace_eq, hentry, State.drive_member, State.drive_port, hmember, hport]
  rfl

theorem exec_announcePlace {s : State} {w : AnnounceWindow} (hp : s.resetPin = false) (hs : s.link.synced = true)
    (hline : s.link.pixelTime < s.geometry.linePixels) (ha : s.member.announce = some w) (hw : w.wordRead = true)
    (others : Lines) : exec (.announcePlace others) s = .next ((s.reach (placeEnd w.place)).endPlace w others) := by
  have henabled : (s.link.synced && s.lineHolds) = true := Bool.and_eq_true_iff.2 ⟨hs, decide_eq_true hline⟩
  refine (happening_of (f := fun s => s.announcePlaceEnds others) hp henabled).trans ?_
  simp only [State.announcePlaceEnds, ha, hw, if_true]

/-- A place the station does not drive ends: the Member Table takes it, and the window goes on or is complete. -/
theorem exec_otherPlace {s : State} {w : AnnounceWindow} (hp : s.resetPin = false) (hs : s.link.synced = true)
    (hline : s.link.pixelTime < s.geometry.linePixels) (ha : s.member.announce = some w) (hw : w.wordRead = true)
    (hother : s.member.own.drives = false ∨ w.place ≠ s.straps.station.toNat) (others : Lines) :
    exec (.announcePlace others) s =
      .next ((s.otherPlaceTaken w.place others).nextPlace (w.after (placeHeard others))) := by
  obtain ⟨-, hstraps, -, -, -, hmember, -⟩ := reach_frame s (placeEnd w.place)
  have hplace : (s.reach (placeEnd w.place)).drivesPlace w.place = false := by
    rw [State.drivesPlace, State.stationNumber, hmember, hstraps]
    obtain h | h := hother
    · rw [h, Bool.false_and]
    · rw [beq_eq_false_iff_ne.2 h, Bool.and_false]
  rw [exec_announcePlace hp hs hline ha hw, endPlace_other hplace (by rw [hmember, ha])]
  rfl

/-- What a place leaves of its entry, by whether it was heard, and how often it was missed before (R49, R50). -/
theorem entryTaken_cases {s : State} {n : Nat} {e : MemberEntry} (he : s.member.members.getD n .absent = e) (others : Lines) :
    (others.extractLsb' 0 8 ≠ 0xFF#8 → s.entryTaken n others =
      { present := true, code := others.extractLsb' 0 8, joining := others.getLsbD 8, nonce := others.extractLsb' 9 7, missed := 0,
        framePresent := if e.present then e.framePresent else s.link.frameNumber }) ∧
    (¬others.extractLsb' 0 8 ≠ 0xFF#8 → e.present = false → s.entryTaken n others = e) ∧
    (¬others.extractLsb' 0 8 ≠ 0xFF#8 → e.present = true → e.missed < 3 →
      s.entryTaken n others = { e with missed := e.missed + 1 }) ∧
    (¬others.extractLsb' 0 8 ≠ 0xFF#8 → e.present = true → 3 ≤ e.missed →
      s.entryTaken n others = { e with present := false, missed := 0 }) := by
  rw [State.entryTaken, he]
  refine ⟨fun h => take_heard h _ e, fun h hp => ?_, fun h hp hm => ?_, fun h hp hm => ?_⟩
  · rw [take_notHeard h, miss_absent hp]
  · rw [take_notHeard h, miss_again hp hm]
  · rw [take_notHeard h, miss_last hp hm]

/-- The window after a place that was heard or not, as the place's low byte says. -/
theorem after_heard (w : AnnounceWindow) (others : Lines) :
    w.after (placeHeard others) = { w with
      place := w.place + 1, heard := if others.extractLsb' 0 8 ≠ 0xFF#8 then w.heard ++ [w.place] else w.heard } :=
  congrArg (fun heard => { w with place := w.place + 1, heard := heard }) (if_congr (placeHeard_iff others) rfl rfl)

/-- Settles O27: the entry and MEMBERS as the place leaves them, and before place 7 nothing else of the Membership Unit but the
window. -/
theorem otherPlaceIsTaken : Obligations.OtherPlaceIsTaken := by
  unfold Obligations.OtherPlaceIsTaken
  refine ⟨fun s w others e hp hs hline ha hw hplace _ hother he => ?_, fun s w others e hp hs hline ha hw hplace _ hother he => ?_⟩
  · intro heard
    have hnext := nextPlace_goes (s := s.otherPlaceTaken w.place others) (w := w.after (placeHeard others)) (Nat.succ_lt_succ hplace)
    obtain ⟨hheard, habsent, hmissed, hlast⟩ := entryTaken_cases he others
    obtain ⟨-, -, -, htable, -, -, hclaim, -, hcollisions, hpicks, hsurface, -, hengine, -, -, hcounter, hframe, hsynced, -⟩ :=
      reach_frame s (placeEnd w.place)
    refine ⟨_, s.entryTaken w.place others, exec_otherPlace hp hs hline ha hw hother others, hheard, habsent, hmissed, hlast, ?_⟩
    rw [hnext, otherPlaceTaken_eq, he, after_heard]
    exact ⟨rfl, reach_pixelTime s _, hcounter, hsynced.trans hs, fun h => placeEvents_changed h _, fun h => placeEvents_same h _,
      rfl, hframe, htable, hclaim, hsurface, hengine, hpicks, hcollisions⟩
  · intro heard
    have hend : (w.after (placeHeard others)).place = 8 := congrArg (· + 1) hplace
    obtain ⟨hheard, habsent, hmissed, hlast⟩ := entryTaken_cases he others
    obtain ⟨-, -, -, htable, -, -, hclaim, -, hcollisions, hpicks, hsurface, -, hengine, -, -, hcounter, hframe, hsynced, -⟩ :=
      reach_frame s (placeEnd 7)
    have hacts := exec_otherPlace hp hs hline ha hw (hplace ▸ hother.imp_right Ne.symm) others
    have hkept := completeWindow_placeFrame (s.otherPlaceTaken 7 others) (w.after (placeHeard others))
    obtain ⟨hannounce, hwait⟩ := completeWindow_over (s.otherPlaceTaken 7 others) (w.after (placeHeard others))
    rw [hplace, nextPlace_ends hend] at hacts
    have hquiet := fun hl hm => completeWindow_other (s := s.otherPlaceTaken 7 others) hl hm (w.after (placeHeard others))
    have hsame := completeWindow_same (s := s.otherPlaceTaken 7 others) (w := w.after (placeHeard others))
    rw [otherPlaceTaken_eq, he] at hacts hkept hannounce hwait hquiet hsame
    refine ⟨_, s.entryTaken 7 others, hacts, hheard, habsent, hmissed, hlast, ?_⟩
    exact ⟨hkept.members, hannounce, hwait, hkept.pixelTime.trans (reach_pixelTime s _), hkept.nonceDraws,
      fun hl hm => congrArg State.member (hquiet hl hm), fun h => congrArg State.member (hsame h),
      hkept.lineCounter.trans hcounter, hkept.synced.trans (hsynced.trans hs),
      fun h => hkept.membersEvents.trans (congrArg Events.members (placeEvents_changed h _)),
      fun h => hkept.membersEvents.trans (congrArg Events.members (placeEvents_same h _)), completeWindow_released rfl _,
      hkept.frameNumber.trans hframe, hkept.table.trans htable, hkept.claim.trans hclaim, hkept.surface.trans hsurface,
      hkept.engine.trans hengine, hkept.picks.trans hpicks, hkept.collisions.trans hcollisions⟩

/-! ### The own place (R44, R45, R47, R58) -/

/-- The agreement code of a preset (Table 2-1). -/
theorem geometry_code (s : State) : s.geometry.code = BitVec.ofNat 8 (0x50 + s.straps.preset.toNat) := by
  have hcodes : ∀ preset : BitVec 2, (geometryOf preset).code = BitVec.ofNat 8 (0x50 + preset.toNat) := by decide
  exact hcodes _

/-- The announce of a station, line by line (R44). -/
theorem announce_eq (s : State) :
    s.announce = (Config.nonceSample s.member.nonceDraws ++ BitVec.ofBool (decide (s.member.own ≠ .member))) ++
      BitVec.ofNat 8 (0x50 + s.straps.preset.toNat) := by
  have hjoin : (!s.isMember) = decide (s.member.own ≠ .member) := by
    rw [Bool.eq_iff_iff]
    simp [State.isMember]
  rw [State.announce, announceWord, geometry_code, hjoin]

/-- No agreement code reads FFh, whatever else is driven, so that a station hears its own place (R46). -/
theorem announce_heard (s : State) (others : Lines) : (others &&& s.announce).extractLsb' 0 8 ≠ 0xFF#8 := by
  have hcodes : ∀ preset : BitVec 2, (BitVec.ofNat 8 (0x50 + preset.toNat)).getLsbD 7 = false := by decide
  have hclear : s.announce.getLsbD 7 = false := by
    rw [announce_eq, BitVec.getLsbD_append]
    exact hcodes _
  intro h
  have hline := congrArg (fun w : Byte => w.getLsbD 7) h
  simp only [BitVec.getLsbD_extractLsb', BitVec.getLsbD_and, Nat.zero_add, hclear, Bool.and_false] at hline
  exact Bool.false_ne_true hline

/-- What stands once the Member Table has taken the own place, at the end of that place. -/
def State.ownPlaceEnd (s : State) (others : Lines) : State :=
  (s.reach (placeEnd s.stationNumber)).ownPlaceTaken others

theorem reach_announce (s : State) (p : Nat) : (s.reach p).announce = s.announce := by
  obtain ⟨-, hstraps, -, -, -, hmember, -⟩ := reach_frame s p
  rw [announce_eq, announce_eq, hstraps, hmember]

/-- The entry that the own announce leaves (R49). -/
def State.ownEntry (s : State) (others : Lines) : MemberEntry :=
  { present := true, code := (others &&& s.announce).extractLsb' 0 8, joining := (others &&& s.announce).getLsbD 8
    nonce := (others &&& s.announce).extractLsb' 9 7, missed := 0
    framePresent := if (s.member.members.getD s.stationNumber .absent).present then
        (s.member.members.getD s.stationNumber .absent).framePresent
      else s.link.frameNumber }

theorem ownPlaceEnd_eq (s : State) (others : Lines) :
    s.ownPlaceEnd others = { s.reach (placeEnd s.stationNumber) with
      port := { s.port with
        events := placeEvents (s.member.members.getD s.stationNumber .absent).present true s.port.events }
      link := { (s.reach (placeEnd s.stationNumber)).link with ldata := s.announce, ldataJoin := released }
      member := { s.member with
        members := s.member.members.set s.stationNumber (s.ownEntry others), nonceDraws := s.member.nonceDraws + 1 } } := by
  obtain ⟨-, hstraps, hport, -, -, hmember, -, -, -, -, -, -, -, -, -, -, hframe, -⟩ := reach_frame s (placeEnd s.stationNumber)
  have hnumber : (s.reach (placeEnd s.stationNumber)).stationNumber = s.stationNumber := by rw [State.stationNumber, hstraps]; rfl
  have hentry : ((s.reach (placeEnd s.stationNumber)).drawNonce.drive s.announce).entryTaken s.stationNumber
      (others &&& s.announce) = s.ownEntry others := by
    rw [State.entryTaken, take_heard (announce_heard s others), State.drive_member, State.drawNonce_member, hmember,
      State.drive_link, State.drawNonce_link, hframe]
    rfl
  rw [State.ownPlaceEnd, State.ownPlaceTaken, hnumber, reach_announce, takePlace_eq, hentry, State.drive_member,
    State.drawNonce_member, State.drive_port, State.drawNonce_port, hmember, hport]
  simp only [State.drive, State.drawNonce, hmember]
  rfl

/-- A clean readback admits a station in FOUNDING or JOINING (R58). -/
theorem readBackPlace_clean {s : State} {driven read : Lines} (h : read = driven) :
    s.readBackPlace driven read = { s with
      member := { s.member with admitted := if s.member.own = .member then s.member.admitted else true } } := by
  unfold State.readBackPlace State.isMember
  rw [if_pos h]
  simp only [beq_iff_eq]
  split <;> rfl

/-- Any difference sends it to CONFLICT (R47). -/
theorem readBackPlace_differs {s : State} {driven read : Lines} (h : read ≠ driven) :
    s.readBackPlace driven read = s.changeState .conflict := if_neg h

theorem readBackPlace_placeFrame (s : State) (driven read : Lines) : s.PlaceFrame (s.readBackPlace driven read) := by
  by_cases h : read = driven
  · rw [readBackPlace_clean h]
    constructor <;> rfl
  · rw [readBackPlace_differs h]
    exact changeState_placeFrame s .conflict

/-- The window is held on through the readback; in CONFLICT it no longer counts (R52). -/
theorem readBackPlace_window {s : State} {w : AnnounceWindow} (h : s.member.announce = some w) (driven read : Lines) :
    ∃ listening, (s.readBackPlace driven read).member.announce = some { w with listening := listening } := by
  by_cases hread : read = driven
  · rw [readBackPlace_clean hread]
    exact ⟨w.listening, h⟩
  · rw [readBackPlace_differs hread, changeState_member, h]
    exact ⟨_, rfl⟩

/-- The state in which the own place has been read back. -/
def State.ownPlaceRead (s : State) (others : Lines) : State :=
  (s.ownPlaceEnd others).readBackPlace s.announce (others &&& s.announce)

/-- The own place ends: driven, taken and read back, and the window goes on or is complete. -/
theorem exec_ownPlace {s : State} {w : AnnounceWindow} (hp : s.resetPin = false) (hs : s.link.synced = true)
    (hline : s.link.pixelTime < s.geometry.linePixels) (ha : s.member.announce = some w) (hw : w.wordRead = true)
    (hplace : w.place = s.straps.station.toNat) (hd : s.member.own.drives = true) (others : Lines) :
    ∃ listening, exec (.announcePlace others) s = .next ((s.ownPlaceRead others).nextPlace
      { w with listening := listening, place := w.place + 1, heard := w.heard ++ [w.place] }) := by
  obtain ⟨-, hstraps, -, -, -, hmember, -⟩ := reach_frame s (placeEnd w.place)
  have hnumber : w.place = (s.reach (placeEnd w.place)).stationNumber := by rw [State.stationNumber, hstraps, hplace]
  have hheard : placeHeard (others &&& s.announce) = true := (placeHeard_iff _).2 (announce_heard s others)
  obtain ⟨listening, hwindow⟩ := readBackPlace_window (s := s.ownPlaceEnd others) (w := w) (by rw [ownPlaceEnd_eq]; exact ha)
    s.announce (others &&& s.announce)
  refine ⟨listening, ?_⟩
  rw [exec_announcePlace hp hs hline ha hw, endPlace_own (by rw [hmember, hd]) hnumber, reach_announce, hplace]
  have hplaceEnd : (s.reach (placeEnd s.straps.station.toNat)).ownPlaceTaken others = s.ownPlaceEnd others := rfl
  simp only [hplaceEnd, hwindow, hheard, Option.getD_some, AnnounceWindow.after, if_true, State.ownPlaceRead, hplace]

/-- What the readback of the own place leaves, clean or not. -/
theorem ownPlaceRead_kept (s : State) (others : Lines) : (s.ownPlaceEnd others).PlaceFrame (s.ownPlaceRead others) :=
  readBackPlace_placeFrame _ _ _

/-- A clean readback keeps the own state, and what was driven stands (R47, R58). -/
theorem ownPlaceRead_clean {s : State} {others : Lines} (h : others &&& s.announce = s.announce) :
    (s.ownPlaceRead others).member = { s.member with
      admitted := if s.member.own = .member then s.member.admitted else true
      members := (s.ownPlaceRead others).member.members, nonceDraws := s.member.nonceDraws + 1 } ∧
    (s.ownPlaceRead others).link.ldata = s.announce ∧
    (s.ownPlaceRead others).port.events.state = s.port.events.state := by
  rw [State.ownPlaceRead, readBackPlace_clean h, ownPlaceEnd_eq]
  exact ⟨rfl, rfl, placeEvents_state _ _ _⟩

/-- Any other readback sends the station to CONFLICT, which releases its lines (R43, R47). -/
theorem ownPlaceRead_differs {s : State} {others : Lines} (h : others &&& s.announce ≠ s.announce) :
    (s.ownPlaceRead others).member = { s.member with
      own := .conflict, listenCount := 0, windowWait := 0, admitted := false, detachPending := false
      members := (s.ownPlaceRead others).member.members, announce := (s.ownPlaceRead others).member.announce
      nonceDraws := s.member.nonceDraws + 1 } ∧
    (s.ownPlaceRead others).link.ldata = released ∧ (s.ownPlaceRead others).link.lineTimer = none ∧
    (s.ownPlaceRead others).port.events.state = oneMore s.port.events.state := by
  rw [State.ownPlaceRead, readBackPlace_differs h, changeState_member, changeState_port, changeState_link_silent _ _ rfl,
    ownPlaceEnd_eq]
  exact ⟨rfl, rfl, rfl, (saturate_oneMore _).trans (congrArg oneMore (placeEvents_state _ _ _))⟩

/-- The own place, being heard, raises MEMBERS where its entry was absent (R49). -/
theorem placeEvents_heard (old : Bool) (e : Events) :
    (placeEvents old true e).members = if old then e.members else oneMore e.members := by
  cases old with
  | true => rfl
  | false => exact saturate_oneMore _

/-- The Member Table, and its event, once the own place has been read back (R49). -/
theorem ownPlaceRead_members (s : State) (others : Lines) :
    (s.ownPlaceRead others).member.members = s.member.members.set s.stationNumber (s.ownEntry others) ∧
    (s.ownPlaceRead others).port.events.members =
      if (s.member.members.getD s.stationNumber .absent).present then s.port.events.members
      else oneMore s.port.events.members := by
  have hkept := ownPlaceRead_kept s others
  rw [ownPlaceEnd_eq] at hkept
  exact ⟨hkept.members, hkept.membersEvents.trans (placeEvents_heard _ _)⟩

/-- A driving station is not in LISTEN (R41). -/
theorem drives_ne_listen {own : OwnState} (h : own.drives = true) : own ≠ .listen := by
  rintro rfl
  cases h

/-- Settles O28: the announce driven is that of R44, and the readback is clean or sends the station to CONFLICT. -/
theorem ownPlaceIsAnnouncedAndCompared : Obligations.OwnPlaceIsAnnouncedAndCompared := by
  unfold Obligations.OwnPlaceIsAnnouncedAndCompared
  refine ⟨fun s w others hp hs hline ha hw hlt hplace hd => ?_, fun s w others hp hs hline ha hw h7 hplace hd => ?_⟩
  · intro driven
    have hdriven : s.announce = driven := announce_eq s
    clear_value driven
    subst hdriven
    have hnumber : s.stationNumber = w.place := hplace.symm
    obtain ⟨listening, hacts⟩ := exec_ownPlace hp hs hline ha hw hplace hd others
    obtain ⟨hmembers, hevents⟩ := ownPlaceRead_members s others
    have hkept := ownPlaceRead_kept s others
    obtain ⟨-, -, -, htable, -, -, hclaim, -, -, -, hsurface, -, hengine, -, -, hcounter, hframe, hsynced, -⟩ :=
      reach_frame s (placeEnd s.stationNumber)
    rw [ownPlaceEnd_eq] at hkept
    rw [hnumber] at hmembers hevents
    rw [nextPlace_goes (Nat.succ_lt_succ hlt)] at hacts
    refine ⟨_, hacts, hkept.nonceDraws, fun hclean => ?_, fun hdiffers => ?_, fun hlength => ?_, fun n hn => ?_, ?_, ?_,
      hkept.lineCounter.trans hcounter, hkept.frameNumber.trans hframe, hkept.synced.trans (hsynced.trans hs), fun hclean => ?_,
      fun hdiffers => ?_, rfl, rfl, hkept.table.trans htable, hkept.claim.trans hclaim, hkept.surface.trans hsurface,
      hkept.engine.trans hengine⟩
    · obtain ⟨hmember, hldata, hstate⟩ := ownPlaceRead_clean hclean
      exact ⟨(congrArg Membership.own hmember :), hldata, hstate, (congrArg Membership.admitted hmember :)⟩
    · obtain ⟨hmember, hldata, htimer, hstate⟩ := ownPlaceRead_differs hdiffers
      exact ⟨(congrArg Membership.own hmember :), hldata, htimer, hstate, (congrArg Membership.admitted hmember :),
        (congrArg Membership.detachPending hmember :)⟩
    · have hentry : (s.ownPlaceRead others).member.members.getD w.place .absent = s.ownEntry others := by
        rw [hmembers, List.getD_eq_getElem?_getD, List.getElem?_set_self hlength]
        rfl
      rw [hentry]
      exact ⟨rfl, rfl, rfl⟩
    · dsimp only
      rw [hmembers, List.getD_eq_getElem?_getD, List.getElem?_set_ne hn.symm, ← List.getD_eq_getElem?_getD]
    · rw [State.ownEntry, hnumber] at hmembers
      exact ⟨hmembers, hevents⟩
    · exact hkept.pixelTime.trans (hnumber ▸ reach_pixelTime s _)
    · obtain ⟨hmember, -⟩ := ownPlaceRead_clean hclean
      dsimp only
      rw [hmember]
    · obtain ⟨hmember, -⟩ := ownPlaceRead_differs hdiffers
      dsimp only
      rw [hmember]
  · intro driven read old
    have hdriven : s.announce = driven := announce_eq s
    clear_value driven
    subst hdriven
    have hnumber : s.stationNumber = 7 := hplace
    have hend : ∀ listening, ({ w with
        listening := listening, place := w.place + 1, heard := w.heard ++ [w.place] } : AnnounceWindow).place = 8 :=
      fun _ => congrArg (· + 1) h7
    obtain ⟨listening, hacts⟩ := exec_ownPlace hp hs hline ha hw (h7.trans hplace.symm) hd others
    obtain ⟨hmembers, hevents⟩ := ownPlaceRead_members s others
    have hkept := ownPlaceRead_kept s others
    obtain ⟨-, -, -, htable, -, -, hclaim, -, -, -, hsurface, -, hengine, -, -, hcounter, hframe, hsynced, -⟩ :=
      reach_frame s (placeEnd s.stationNumber)
    rw [ownPlaceEnd_eq] at hkept
    rw [hnumber] at hmembers hevents
    rw [nextPlace_ends (hend listening)] at hacts
    generalize ({ w with
      listening := listening, place := w.place + 1, heard := w.heard ++ [w.place] } : AnnounceWindow) = ended at hacts
    have hover := completeWindow_placeFrame (s.ownPlaceRead others) ended
    obtain ⟨hannounce, hwait⟩ := completeWindow_over (s.ownPlaceRead others) ended
    have hall := hkept.trans hover
    have hlisten : s.member.own ≠ .listen := drives_ne_listen hd
    refine ⟨_, hacts, hall.nonceDraws, hannounce, hwait, fun hclean hother => ?_, fun hclean hmem hstays => ?_, fun hdiffers => ?_,
      hover.members.trans ?_, hover.membersEvents.trans hevents, ?_, hall.lineCounter.trans hcounter,
      hall.frameNumber.trans hframe, hall.synced.trans (hsynced.trans hs), fun hstays => ?_, hall.table.trans htable,
      hall.claim.trans hclaim, hall.surface.trans hsurface, hall.engine.trans hengine⟩
    · obtain ⟨hmember, hldata, hstate⟩ := ownPlaceRead_clean hclean
      have hown : (s.ownPlaceRead others).member.own = s.member.own := by rw [hmember]
      have hadmitted : (s.ownPlaceRead others).member.admitted = true := by rw [hmember]; exact if_neg hother
      rw [completeWindow_other (hown ▸ hlisten) (hown ▸ hother)]
      exact ⟨hown, hldata, hadmitted, hstate⟩
    · obtain ⟨hmember, hldata, hstate⟩ := ownPlaceRead_clean hclean
      have hown : (s.ownPlaceRead others).member.own = s.member.own := by rw [hmember]
      have hadmitted : (s.ownPlaceRead others).member.admitted = s.member.admitted := by rw [hmember]; exact if_pos hmem
      have hsame := completeWindow_same (hstays.trans (hown.trans hmem).symm)
      exact ⟨(congrArg (fun t : State => t.link.ldata) hsame).trans hldata,
        (congrArg (fun t : State => t.member.admitted) hsame).trans hadmitted,
        (congrArg (fun t : State => t.port.events.state) hsame).trans hstate⟩
    · obtain ⟨hmember, hldata, htimer, hstate⟩ := ownPlaceRead_differs hdiffers
      have hown : (s.ownPlaceRead others).member.own = .conflict := by rw [hmember]
      have hadmitted : (s.ownPlaceRead others).member.admitted = false := by rw [hmember]
      have hdetach : (s.ownPlaceRead others).member.detachPending = false := by rw [hmember]
      rw [completeWindow_other (by rw [hown]; nofun) (by rw [hown]; nofun)]
      exact ⟨hown, hldata, htimer, hstate, hadmitted, hdetach⟩
    · rw [State.ownEntry, hnumber] at hmembers
      exact hmembers
    · exact hall.pixelTime.trans (hnumber ▸ reach_pixelTime s _)
    · by_cases hclean : others &&& s.announce = s.announce
      · obtain ⟨hmember, -⟩ := ownPlaceRead_clean hclean
        have hown : (s.ownPlaceRead others).member.own = s.member.own := by rw [hmember]
        have hsame := congrArg State.member (completeWindow_same (hstays.trans hown.symm))
        rw [if_neg (hown ▸ hlisten)] at hsame
        rw [hsame, State.windowEnded]
        dsimp only
        rw [hmember]
      · obtain ⟨hmember, -⟩ := ownPlaceRead_differs hclean
        have hown : (s.ownPlaceRead others).member.own = .conflict := by rw [hmember]
        rw [completeWindow_other (by rw [hown]; nofun) (by rw [hown]; nofun)] at hstays
        rw [← (show (s.ownPlaceRead others).member.own = s.member.own from hstays), hown] at hd
        cases hd

end Sys2Proof.Machine
end

section
/-! SUPPORT. A blank claim round: the bid of a round, the close of the window, and the start of the fetch. -/

namespace Sys2Proof.Machine

/-! ### Denial (R82) -/

/-- One denial counts once, up to 255, and leaves a first denial that stands. -/
theorem deny_eq (L : Nat) (overflow : Bool) (r : Shortfall) (object : Nat) :
    Shortfall.deny L overflow r object = { r with
      firstLine := if r.firstLine.isNone then some L else r.firstLine
      firstObject := if r.firstLine.isNone then some object else r.firstObject
      denied := oneMore r.denied, overflow := if overflow then oneMore r.overflow else r.overflow } := by
  unfold Shortfall.deny
  rw [saturate_oneMore, saturate_oneMore]

/-! ### The bid (R68, R71) -/

theorem isMember_iff {s : State} : s.isMember = true ↔ s.member.own = .member := beq_iff_eq

/-- A member bids for the head of its list. -/
theorem bidWord_head {s : State} {c : Candidate} {rest : List Candidate} (hown : s.member.own = .member)
    (hlist : s.claim.candidates = c :: rest) :
    s.bidWord = some (claimWord (s.keyFor c) s.straps.station.toNat c.object) := by
  simp only [State.bidWord, State.bidder, isMember_iff.2 hown, if_true, hlist, List.head?_cons, Option.map_some,
    State.stationNumber]

/-- Any other state, or an empty list, gives no bid. -/
theorem bidWord_none {s : State} (h : s.member.own ≠ .member ∨ s.claim.candidates = []) : s.bidWord = none := by
  obtain hother | hempty := h
  · exact bidWord_silent (Bool.eq_false_iff.2 (mt isMember_iff.1 hother))
  · simp only [State.bidWord, State.bidder, hempty, List.head?_nil, ite_self, Option.map_none]

/-- The bid does not depend on the position in the line. -/
theorem reach_bidWord (s : State) (p : Nat) : (s.reach p).bidWord = s.bidWord := by
  obtain ⟨-, hstraps, -, -, -, hmember, hclaim, -, -, -, -, -, -, -, -, -, hframe, -⟩ := reach_frame s p
  unfold State.bidWord State.bidder State.isMember State.keyFor State.stationNumber
  rw [hstraps, hmember, hclaim, hframe]

/-- A round settles as it would before its pixel times passed. -/
theorem reach_settledRound (s : State) (p : Nat) (bids : List Lines) (held : Carried) :
    (s.reach p).settledRound bids held = s.settledRound bids held := by
  unfold State.settledRound
  rw [reach_bidWord]

/-! ### The round's end -/

/-- A round that ends on a line in hand is read at its own pixel time. -/
theorem exec_claimRound {s : State} {r : Nat} (hp : s.resetPin = false) (hw : s.claim.window = some r)
    (hline : s.link.pixelTime < s.geometry.linePixels) (bids : List Lines) (held : Carried) :
    exec (.claimRound bids held) s = .next ((s.reach (roundEnd r)).endRound r bids held) := by
  refine (happening_of (f := fun s => s.claimRoundEnds bids held) hp (decide_eq_true hline)).trans ?_
  simp only [State.claimRoundEnds, hw]

/-- A blank round drives the bid and closes the window (R72). -/
theorem endRound_blank {s : State} (r : Nat) {bids : List Lines} {held : Carried}
    (h : isBlank ((s.settledRound bids held).bus held.reading) = true) :
    s.endRound r bids held = (s.drive (s.bidWord.getD released)).closeWindow := if_pos h

/-! ### The start of the fetch (R87) -/

/-- The start of the fetch touches the arbiter and the line buffer alone. -/
theorem startFetch_eq (s : State) :
    s.startFetch = { s with
      arbiter := s.startFetch.arbiter
      lines := { s.lines with buffer := s.startFetch.lines.buffer, fetching := s.startFetch.lines.fetching } } := by
  obtain ⟨-, g, rest, -, heq⟩ | ⟨-, heq⟩ := startFetch_cases s <;> rw [heq]

/-- A station with no own grants, or in any state but MEMBER, begins no fetch. -/
theorem startFetch_idle {s : State} (h : s.member.own ≠ .member ∨ s.claim.ownGrants = []) : s.startFetch = s := by
  obtain ⟨hmember, g, rest, hgrants, -⟩ | ⟨-, heq⟩ := startFetch_cases s
  · obtain hother | hempty := h
    · exact absurd (isMember_iff.1 hmember) hother
    · rw [hempty] at hgrants; cases hgrants
  · exact heq

/-- A member's fetch begins with the row of its lowest slot. -/
theorem startFetch_lines {s : State} {g : OwnGrant} {rest : List OwnGrant} (hown : s.member.own = .member)
    (hgrants : s.claim.ownGrants = g :: rest) :
    s.startFetch.lines = { s.lines with buffer := [startRow g], fetching := true } := by
  obtain ⟨-, g', rest', hgrants', heq⟩ | ⟨hnone | hnone, -⟩ := startFetch_cases s
  · obtain ⟨rfl, -⟩ := List.cons.inj (hgrants.symm.trans hgrants')
    rw [heq]
  · exact absurd ((isMember_iff.2 hown).symm.trans hnone) (by decide)
  · rw [hgrants] at hnone; cases hnone

/-- The station as a blank round leaves it, but for the fetch. -/
def State.blankRound (s : State) (r : Nat) : State := ((s.reach (roundEnd r)).drive (s.bidWord.getD released)).windowClosed

/-- What a blank round leaves, field by field, before the fetch begins. -/
theorem blankRound_frame (s : State) (r : Nat) :
    let t := s.blankRound r
    t.claim = { s.claim with
        window := none
        current := (s.claim.candidates.map Candidate.object).foldl (Shortfall.deny s.link.lineCounter false)
          s.claim.current } ∧
      t.lines = { s.lines with column := some 0 } ∧ t.member = s.member ∧
      t.link.pixelTime = max (10 + 3 * r) s.link.pixelTime ∧
      t.link.frameNumber = s.link.frameNumber ∧ t.link.lineCounter = s.link.lineCounter ∧ t.link.synced = s.link.synced ∧
      t.link.ldata = s.bidWord.getD released ∧ t.table = s.table ∧ t.surface = s.surface ∧ t.engine = s.engine ∧
      t.port = s.port ∧ t.picks = s.picks ∧ t.collisions = s.collisions := by
  obtain ⟨-, -, hport, htable, -, hmember, hclaim, hlines, hcollisions, hpicks, hsurface, -, hengine, -, -, hcounter,
    hframe, hsynced, -⟩ := reach_frame s (roundEnd r)
  refine ⟨?_, congrArg (fun l : Assembler => { l with column := some 0 }) hlines, hmember, reach_pixelTime s (roundEnd r), hframe,
    hcounter, hsynced, rfl, htable, hsurface, hengine, hport, hpicks, hcollisions⟩
  simp only [State.blankRound, State.windowClosed, State.drive, hclaim, hcounter]

/-- Settles O36: the window closes as `windowClosed` gives it, and the fetch begins from there. -/
theorem blankRoundClosesTheWindow : Obligations.BlankRoundClosesTheWindow := by
  unfold Obligations.BlankRoundClosesTheWindow
  refine ⟨fun L overflow r object => ?_, fun s bids held => ⟨fun c rest hown hlist => ?_, fun hnone => ?_⟩,
    fun s r bids held hp hw hline hblank => ?_⟩
  · rw [deny_eq]
    refine ⟨rfl, rfl, rfl, fun hfirst => ?_, fun hfirst => ?_⟩
    · simp only [hfirst, Option.isNone_none, if_true, and_self]
    · simp only [Option.isNone_iff_eq_none, hfirst, if_false, and_self]
  · rw [State.settledRound, bidWord_head hown hlist]
  · rw [State.settledRound, bidWord_none hnone]
  · have hends : (s.reach (roundEnd r)).endRound r bids held = (s.blankRound r).startFetch := by
      rw [endRound_blank r ((congrArg (fun c : Contest => isBlank (c.bus held.reading))
        (reach_settledRound s (roundEnd r) bids held)).trans hblank), reach_bidWord, closeWindow_eq]
      rfl
    obtain ⟨hclaim, hlines, hmember, htime, hframe, hcounter, hsynced, hldata, htable, hsurface, hengine, hport, hpicks,
      hcollisions⟩ := blankRound_frame s r
    have hgrants := congrArg ClaimUnit.ownGrants hclaim
    refine ⟨_, exec_claimRound hp hw hline bids held, ?_⟩
    rw [hends]
    have hkept := startFetch_eq (s.blankRound r)
    refine ⟨?_, ?_, ?_, ?_, ?_, ?_, ?_, fun c rest hown hlist => ?_, fun hnone => ?_, fun hnone => ?_,
      fun g rest hown hlist => ?_, ?_⟩
    · rw [hkept]; exact hclaim
    · rw [hkept]; exact congrArg (fun l : Assembler => l.column) hlines
    · rw [hkept]; exact hmember
    · rw [hkept]; exact htime
    · rw [hkept]; exact hframe
    · rw [hkept]; exact hcounter
    · rw [hkept]; exact hsynced
    · rw [hkept]; exact hldata.trans (congrArg (·.getD released) (bidWord_head hown hlist))
    · rw [hkept]; exact hldata.trans (congrArg (·.getD released) (bidWord_none hnone))
    · rw [startFetch_idle (by rwa [hmember, hgrants]), hlines]
      exact ⟨rfl, rfl⟩
    · rw [startFetch_lines (hmember ▸ hown) (hgrants.trans hlist)]
      exact ⟨rfl, rfl⟩
    · rw [hkept]; exact ⟨htable, hsurface, hengine, hport, hpicks, hcollisions⟩

end Sys2Proof.Machine
end

section
/-! SUPPORT. The Pick Unit's placing of an edge, and a column resolved: the report, and what it does to the two units that
examine it. -/

namespace Sys2Proof.Machine

/-! ### Picks (R123 … R127) -/

/-- A record that finds room joins the Pick Queue with PICK. -/
theorem offerPick_room {s : State} (r : PickRecord) (h : s.picks.queue.length < 4) :
    s.offerPick r = { s with
      picks := { s.picks with queue := s.picks.queue ++ [r] }
      port := { s.port with events := { s.port.events with pick := oneMore s.port.events.pick } } } :=
  (if_pos h).trans (congrArg (fun n => ({ s with
    picks := { s.picks with queue := s.picks.queue ++ [r] }
    port := { s.port with events := { s.port.events with pick := n } } } : State)) (saturate_oneMore _))

/-- A record that finds the Pick Queue full is discarded with PICK_LOST. -/
theorem offerPick_full {s : State} (r : PickRecord) (h : 4 ≤ s.picks.queue.length) :
    s.offerPick r = { s with
      port := { s.port with events := { s.port.events with pickLost := oneMore s.port.events.pickLost } } } :=
  (if_neg h.not_gt).trans (congrArg (fun n => ({ s with
    port := { s.port with events := { s.port.events with pickLost := n } } } : State)) (saturate_oneMore _))

/-- Every preset's active pixels fit its line (Table 2-1). -/
theorem activePixels_le (s : State) : s.geometry.activePixels ≤ s.geometry.linePixels := by
  unfold State.geometry geometryOf
  split <;> decide

/-- The pixel time of column `x` lies `x` pixel times into the active part the station holds (R27, R123). -/
theorem columnNow_iff (s : State) (x : Nat) : s.columnNow = some x ↔
    (∃ next, s.lines.column = some next) ∧ s.claim.window = none ∧ s.lines.fetching = false ∧
      s.link.pixelTime = s.geometry.linePixels - s.geometry.activePixels + x ∧ x < s.geometry.activePixels := by
  have hfits := activePixels_le s
  have hblank : s.geometry.blank = s.geometry.linePixels - s.geometry.activePixels := rfl
  unfold State.columnNow
  rw [Option.ite_none_right_eq_some]
  simp only [Option.some.injEq, Bool.and_eq_true, Bool.not_eq_true',
    Option.isSome_iff_exists, Option.isNone_iff_eq_none, decide_eq_true_eq]
  constructor
  · rintro ⟨⟨⟨⟨⟨hcolumn, hwindow⟩, hfetch⟩, hstart⟩, hline⟩, hx⟩
    exact ⟨hcolumn, hwindow, hfetch, by omega, by omega⟩
  · rintro ⟨hcolumn, hwindow, hfetch, htime, hx⟩
    exact ⟨⟨⟨⟨⟨hcolumn, hwindow⟩, hfetch⟩, by omega⟩, by omega⟩, by omega⟩

/-- An edge in the pixel time of a column that is not the one reported last waits, unless a trigger pick waits already. -/
theorem edgeInColumn_waits {s : State} {x : Nat} (h : s.lines.column ≠ some (x + 1)) :
    s.edgeInColumn x =
      if s.picks.trigger = true then s else { s with picks := { s.picks with edgeWaiting := true } } := by
  have hlater : (s.lines.column == some (x + 1)) = false := beq_eq_false_iff_ne.2 h
  unfold State.edgeInColumn
  split
  · rw [hlater, Bool.false_and]; rfl
  · rfl

/-- An edge in the pixel time of the column reported last makes its record from that report, once (R124). -/
theorem edgeInColumn_reported {s : State} {x : Nat} {rep : ColumnReport} (hrep : s.lines.report = some rep) (hx : rep.x = x)
    (hnext : s.lines.column = some (x + 1)) :
    s.edgeInColumn x = if s.picks.edgeTaken = true then s else
      ({ s with picks := { s.picks with edgeTaken := true } } : State).offerPick (s.pickRecord none rep) := by
  have hhere : (s.lines.column == some (x + 1) && rep.x == x) = true := by
    rw [hnext, hx, beq_self_eq_true, beq_self_eq_true, Bool.and_self]
  unfold State.edgeInColumn
  rw [hrep]
  exact if_pos hhere

/-- An edge at a synced station, in the pixel time of a column. -/
theorem exec_picktrigEdge_column {s : State} (hp : s.resetPin = false) (hs : s.link.synced = true) {x : Nat}
    (hx : s.columnNow = some x) : exec .picktrigEdge s = .next (s.edgeInColumn x) :=
  (happening_of (f := State.pickEdge) hp hs).trans (by simp only [State.pickEdge, hx])

/-- Settles O46: each clause is one branch of `edgeInColumn`. -/
theorem pickEdgeIsPlacedByItsPixelTime : Obligations.PickEdgeIsPlacedByItsPixelTime := by
  unfold Obligations.PickEdgeIsPlacedByItsPixelTime
  intro s hp
  refine ⟨columnNow_iff s, fun hs => happening_off hs, fun hs hnone => ?_, fun x rep hs hx hrep hrx hnext htaken hroom => ?_,
    fun x rep hs hx hrep hrx hnext htaken hfull => ?_, fun x rep hs hx hrep hrx hnext htaken => ?_,
    fun x hs hx hdue ht => ?_, fun x hs hx hdue ht => ?_, fun x due hs hx hdue hlate => ?_⟩
  · exact (happening_of (f := State.pickEdge) hp hs).trans (by simp only [State.pickEdge, hnone])
  · rw [exec_picktrigEdge_column hp hs hx, edgeInColumn_reported hrep hrx hnext, if_neg (by rw [htaken]; nofun)]
    exact congrArg Host.Outcome.next
      (offerPick_room (s := { s with picks := { s.picks with edgeTaken := true } }) (s.pickRecord none rep) hroom)
  · rw [exec_picktrigEdge_column hp hs hx, edgeInColumn_reported hrep hrx hnext, if_neg (by rw [htaken]; nofun)]
    exact congrArg Host.Outcome.next
      (offerPick_full (s := { s with picks := { s.picks with edgeTaken := true } }) (s.pickRecord none rep) hfull)
  · rw [exec_picktrigEdge_column hp hs hx, edgeInColumn_reported hrep hrx hnext, if_pos htaken]
  · rw [exec_picktrigEdge_column hp hs hx, edgeInColumn_waits (by rw [hdue]; simp), if_pos ht]
  · rw [exec_picktrigEdge_column hp hs hx, edgeInColumn_waits (by rw [hdue]; simp), if_neg (by rw [ht]; nofun)]
  · rw [exec_picktrigEdge_column hp hs hx, edgeInColumn_waits (by rw [hdue, ne_eq, Option.some.injEq]; omega)]

/-! ### What the two units that examine a report read and write -/

/-- The station with another link, Line Assembler and Output Stage, but for the frame number and the line counter. -/
def State.moved (s : State) (link : LinkTiming) (lines : Assembler) (output : OutputStage) : State :=
  { s with
    link := { link with frameNumber := s.link.frameNumber, lineCounter := s.link.lineCounter }
    lines := lines, output := output }

section
variable (s : State) (link : LinkTiming) (lines : Assembler) (output : OutputStage)

@[simp] theorem State.moved_port : (s.moved link lines output).port = s.port := rfl
@[simp] theorem State.moved_table : (s.moved link lines output).table = s.table := rfl
@[simp] theorem State.moved_tints : (s.moved link lines output).tints = s.tints := rfl
@[simp] theorem State.moved_member : (s.moved link lines output).member = s.member := rfl
@[simp] theorem State.moved_claim : (s.moved link lines output).claim = s.claim := rfl
@[simp] theorem State.moved_collisions : (s.moved link lines output).collisions = s.collisions := rfl
@[simp] theorem State.moved_picks : (s.moved link lines output).picks = s.picks := rfl
@[simp] theorem State.moved_surface : (s.moved link lines output).surface = s.surface := rfl
@[simp] theorem State.moved_engine : (s.moved link lines output).engine = s.engine := rfl
@[simp] theorem State.moved_lines : (s.moved link lines output).lines = lines := rfl
@[simp] theorem State.moved_output : (s.moved link lines output).output = output := rfl
@[simp] theorem State.moved_link : (s.moved link lines output).link =
    { link with frameNumber := s.link.frameNumber, lineCounter := s.link.lineCounter } := rfl

end

theorem offerCollision_moved (s : State) (link : LinkTiming) (lines : Assembler) (output : OutputStage)
    (c : CollisionRecord) : (s.moved link lines output).offerCollision c = (s.offerCollision c).moved link lines output := by
  unfold State.offerCollision
  rw [apply_ite (fun t : State => t.moved link lines output), apply_ite (fun t : State => t.moved link lines output)]
  rfl

theorem offerPick_moved (s : State) (link : LinkTiming) (lines : Assembler) (output : OutputStage) (r : PickRecord) :
    (s.moved link lines output).offerPick r = (s.offerPick r).moved link lines output := by
  unfold State.offerPick
  rw [apply_ite (fun t : State => t.moved link lines output)]
  rfl

/-- The record of a pending point is offered. -/
def State.offerPoint (rep : ColumnReport) (s : State) (p : PickPoint) : State := s.offerPick (s.pickRecord (some p.tag) rep)

theorem resolvePoints_eq (s : State) (rep : ColumnReport) : s.resolvePoints rep =
    (s.picks.points.filter (pointAt rep)).foldl (State.offerPoint rep)
      { s with picks := { s.picks with points := s.picks.points.filter fun p => !pointAt rep p } } := rfl

theorem resolvePoints_moved (s : State) (link : LinkTiming) (lines : Assembler) (output : OutputStage)
    (rep : ColumnReport) :
    (s.moved link lines output).resolvePoints rep = (s.resolvePoints rep).moved link lines output := by
  rw [resolvePoints_eq, resolvePoints_eq]
  exact List.foldl_hom (g₁ := State.offerPoint rep) (g₂ := State.offerPoint rep)
    (init := { s with picks := { s.picks with points := s.picks.points.filter fun p => !pointAt rep p } })
    (fun t : State => t.moved link lines output) fun t p => offerPick_moved t link lines output (t.pickRecord (some p.tag) rep)

theorem resolveTrigger_moved (s : State) (link : LinkTiming) (lines : Assembler) (output : OutputStage)
    (rep : ColumnReport) :
    (s.moved link lines output).resolveTrigger rep = (s.resolveTrigger rep).moved link lines output := by
  unfold State.resolveTrigger
  rw [apply_ite (fun t : State => t.moved link lines output), ← offerPick_moved]
  rfl

/-- What the Collision Unit and the Pick Unit make of a report. -/
def State.examined (s : State) (rep : ColumnReport) : State := (s.examineCollisions rep).examinePicks rep

/-- They read the log, the picks, the Event Set, the frame number and the own state alone. -/
theorem examined_moved (s : State) (link : LinkTiming) (lines : Assembler) (output : OutputStage) (rep : ColumnReport) :
    (s.moved link lines output).examined rep = (s.examined rep).moved link lines output := by
  have hcollisions : (s.moved link lines output).examineCollisions rep = (s.examineCollisions rep).moved link lines output :=
    List.foldl_hom (fun t : State => t.moved link lines output) fun t c => offerCollision_moved t link lines output c
  unfold State.examined State.examinePicks
  rw [hcollisions, resolvePoints_moved, resolveTrigger_moved]

/-- Only the log, the picks and the Event Set differ. -/
def State.OffersTo (s t : State) : Prop :=
  t = { s with collisions := t.collisions, picks := t.picks, port := { s.port with events := t.port.events } }

theorem State.OffersTo.refl (s : State) : s.OffersTo s := rfl

theorem State.OffersTo.trans {s t u : State} (h : s.OffersTo t) (h' : t.OffersTo u) : s.OffersTo u :=
  Eq.trans h' (congrArg (fun t : State =>
    { t with collisions := u.collisions, picks := u.picks, port := { t.port with events := u.port.events } }) h)

/-- The fields that stay as they were. -/
theorem State.OffersTo.frame {s t : State} (h : s.OffersTo t) :
    t.port = { s.port with events := t.port.events } ∧ t.link.frameNumber = s.link.frameNumber ∧
      t.link.lineCounter = s.link.lineCounter ∧ t.member = s.member ∧ t.claim = s.claim ∧
      t.table = s.table ∧ t.tints = s.tints ∧ t.surface = s.surface ∧ t.engine = s.engine ∧
      t.port.commands = s.port.commands ∧ t.port.responses = s.port.responses := by
  rw [State.OffersTo] at h
  rw [h]
  exact ⟨rfl, rfl, rfl, rfl, rfl, rfl, rfl, rfl, rfl, rfl, rfl⟩

theorem foldl_offersTo {α : Type} {f : State → α → State} (h : ∀ (s : State) (a : α), s.OffersTo (f s a)) (l : List α) (s : State) :
    s.OffersTo (l.foldl f s) := by
  induction l generalizing s with
  | nil => exact .refl s
  | cons a l ih => exact (h s a).trans (ih (f s a))

theorem offerCollision_offersTo (s : State) (c : CollisionRecord) : s.OffersTo (s.offerCollision c) := by
  unfold State.offerCollision
  split
  · rfl
  · split <;> rfl

theorem offerPick_offersTo (s : State) (r : PickRecord) : s.OffersTo (s.offerPick r) := by
  unfold State.offerPick
  split <;> rfl

theorem examinePicks_offersTo (s : State) (rep : ColumnReport) : s.OffersTo (s.examinePicks rep) := by
  have hpoints : s.OffersTo (s.resolvePoints rep) :=
    .trans (t := { s with picks := { s.picks with points := s.picks.points.filter fun p => !pointAt rep p } }) rfl
      (foldl_offersTo (fun _ _ => offerPick_offersTo _ _) _ _)
  refine hpoints.trans ?_
  unfold State.examinePicks State.resolveTrigger
  split
  · exact .trans (t := { s.resolvePoints rep with picks := { (s.resolvePoints rep).picks with
      trigger := (s.resolvePoints rep).picks.trigger && rep.x != 0, edgeWaiting := false, edgeTaken := true } }) rfl
      (offerPick_offersTo _ _)
  · rfl

theorem examined_offersTo (s : State) (rep : ColumnReport) : s.OffersTo (s.examined rep) :=
  .trans (foldl_offersTo offerCollision_offersTo _ _) (examinePicks_offersTo _ rep)

/-- A record offered leaves the log and the pending points as they were. -/
theorem offerPick_frame (s : State) (r : PickRecord) :
    (s.offerPick r).collisions = s.collisions ∧ (s.offerPick r).picks.points = s.picks.points := by
  unfold State.offerPick
  split <;> exact ⟨rfl, rfl⟩

/-- A collision offered leaves the picks as they were. -/
theorem offerCollision_picks (s : State) (c : CollisionRecord) : (s.offerCollision c).picks = s.picks := by
  unfold State.offerCollision
  split
  · rfl
  · split <;> rfl

/-- What a report leaves of the pending points, and that the Pick Unit leaves the log. -/
theorem examinePicks_frame (s : State) (rep : ColumnReport) :
    (s.examinePicks rep).collisions = s.collisions ∧
      (s.examinePicks rep).picks.points = s.picks.points.filter (fun p => !pointAt rep p) := by
  have hpoints : (s.resolvePoints rep).collisions = s.collisions ∧
      (s.resolvePoints rep).picks.points = s.picks.points.filter (fun p => !pointAt rep p) := by
    rw [resolvePoints_eq]
    refine List.foldlRecOn (motive := fun t : State => t.collisions = s.collisions ∧
      t.picks.points = s.picks.points.filter (fun p => !pointAt rep p)) _ _ ⟨rfl, rfl⟩ fun t ht p _ => ?_
    obtain ⟨hlog, hlist⟩ := offerPick_frame t (t.pickRecord (some p.tag) rep)
    exact ⟨hlog.trans ht.1, hlist.trans ht.2⟩
  unfold State.examinePicks State.resolveTrigger
  split
  · obtain ⟨hlog, hlist⟩ := offerPick_frame _ _
    exact ⟨hlog.trans hpoints.1, hlist.trans hpoints.2⟩
  · exact hpoints

/-- The Collision Unit leaves the picks. -/
theorem examineCollisions_picks (s : State) (rep : ColumnReport) : (s.examineCollisions rep).picks = s.picks :=
  List.foldlRecOn (motive := fun t : State => t.picks = s.picks) _ _ rfl fun t ht c _ => (offerCollision_picks t c).trans ht

/-! ### A column (R92 … R97) -/

/-- The passing of time to a position touches the link and the Output Stage alone. -/
theorem reach_moved (s : State) (p : Nat) : s.reach p = s.moved (s.reach p).link s.lines (s.reach p).output := by
  unfold State.reach
  split <;> rfl

/-- What the station drives in the join phase of a column read as `word` (R93). -/
def State.ownJoin (s : State) (x : Nat) (word : Lines) : Lines :=
  if isBlank word then released else s.joinDrive x (winnerSlot word)

/-- The report of a column (R97). -/
def State.reported (s : State) (x : Nat) (rivals : List Lines) (held : Carried) (join : Lines) : ColumnReport :=
  s.columnReport x (readColumn ((s.settledColumn x rivals held).bus held.reading)
    (join &&& s.ownJoin x ((s.settledColumn x rivals held).bus held.reading)))

/-- A column resolved is the report examined, and the link, the Line Assembler and the Output Stage brought up to date. -/
theorem resolveColumn_moved (s : State) (link : LinkTiming) (output : OutputStage) (x : Nat) (rivals : List Lines)
    (held : Carried) (join : Lines) :
    (s.moved link s.lines output).resolveColumn x rivals held join =
      (s.examined (s.reported x rivals held join)).moved
        { link with
          ldata := (s.contributionWord x).getD released
          ldataJoin := s.ownJoin x ((s.settledColumn x rivals held).bus held.reading) }
        { s.lines with report := some (s.reported x rivals held join), column := some (x + 1) }
        { output with rgb := output.palette.getD (s.reported x rivals held join).reading.composed.toNat .black } :=
  examined_moved s
    { link with
      ldata := (s.contributionWord x).getD released
      ldataJoin := s.ownJoin x ((s.settledColumn x rivals held).bus held.reading) }
    { s.lines with report := some (s.reported x rivals held join), column := some (x + 1) }
    { output with rgb := output.palette.getD (s.reported x rivals held join).reading.composed.toNat .black } _

theorem columnDue_iff (s : State) : s.columnDue = true ↔ s.link.synced = true ∧ s.link.pixelTime < s.geometry.linePixels ∧
    s.claim.window = none ∧ s.lines.fetching = false ∧ ∃ x, s.lines.column = some x ∧ x < s.geometry.activePixels := by
  simp only [State.columnDue, State.lineHolds, Bool.and_eq_true, decide_eq_true_eq, Option.isNone_iff_eq_none,
    Bool.not_eq_true', Option.any_eq_true, and_assoc]

/-- A column that is due is resolved at its own pixel time. -/
theorem exec_columnResolved {s : State} {x : Nat} (hp : s.resetPin = false) (hdue : s.columnDue = true)
    (hx : s.lines.column = some x) (rivals : List Lines) (held : Carried) (join : Lines) :
    exec (.columnResolved rivals held join) s =
      .next ((s.reach (s.geometry.blank + x)).resolveColumn x rivals held join) := by
  refine (happening_of (f := fun s => s.columnResolved rivals held join) hp hdue).trans ?_
  simp only [State.columnResolved, hx]

/-- What a column read as `word` says: the winner phase and the join phase in one colour (R94, R95). -/
theorem readColumn_eq (word join : Lines) : readColumn word join =
    { slot := if isBlank word then none else some (winnerSlot word)
      colour := if isBlank word then 0#8 else lowByte word
      watched := !isBlank word && word.getLsbD 12
      composed := if isBlank word then 0#8 else lowByte word ||| ~~~(lowByte join) } := by
  unfold readColumn
  cases isBlank word <;> rfl

/-- The winner of a column read as `word`, as the grant list names it (R95). -/
theorem nameWinner_eq (s : State) (word : Lines) :
    s.nameWinner (if isBlank word then none else some (winnerSlot word)) =
      if isBlank word then Winner.backdrop else match s.claim.grants.find? fun g => g.slot == winnerSlot word with
        | some g => .named g.station g.object g.cls
        | none => .unknown := by
  have hgranted : ∀ named : Option Grant, s.grantOf (winnerSlot word) = named →
      s.nameWinner (some (winnerSlot word)) = match named with
        | some g => Winner.named g.station g.object g.cls
        | none => .unknown := by
    intro named hnamed
    cases named <;> simp only [State.nameWinner, hnamed]
  cases isBlank word
  · exact hgranted _ rfl
  · rfl

/-- Settles O41: the state is that of `resolveColumn_moved`, and the report that of `readColumn_eq` and `nameWinner_eq`. -/
theorem columnIsComposedAndReported : Obligations.ColumnIsComposedAndReported := by
  unfold Obligations.ColumnIsComposedAndReported
  refine ⟨columnDue_iff, fun s x rivals held => rfl, fun s x rivals held join hp hdue hx => ?_⟩
  extract_lets word named ownJoin composed winner
  obtain ⟨hsynced, -⟩ := (columnDue_iff s).1 hdue
  obtain ⟨-, -, -, -, -, -, -, -, -, -, -, -, -, -, hpalette, -, -, hsync, -⟩ := reach_frame s (s.geometry.blank + x)
  have hread : (s.reported x rivals held join).reading = _ := readColumn_eq word (join &&& ownJoin)
  have hwinner : (s.reported x rivals held join).winner = winner :=
    (congrArg s.nameWinner (congrArg Reading.slot hread)).trans (nameWinner_eq s word)
  have hcomposed : (s.reported x rivals held join).reading.composed = composed := congrArg Reading.composed hread
  refine ⟨_, s.reported x rivals held join, exec_columnResolved hp hdue hx rivals held join, ?_⟩
  rw [reach_moved, resolveColumn_moved]
  obtain ⟨hport, hframe, hcounter, hmember, hclaim, htable, htints, hsurface, hengine, hcommands, hresponses⟩ :=
    (examined_offersTo s (s.reported x rivals held join)).frame
  obtain ⟨hlog, hpoints⟩ := examinePicks_frame (s.examineCollisions (s.reported x rivals held join))
    (s.reported x rivals held join)
  rw [examineCollisions_picks] at hpoints
  simp only [State.moved_port, State.moved_table, State.moved_tints, State.moved_member, State.moved_claim,
    State.moved_collisions, State.moved_picks, State.moved_surface, State.moved_engine, State.moved_lines,
    State.moved_output, State.moved_link, true_and]
  refine ⟨rfl, rfl, hwinner, hcomposed, congrArg Reading.slot hread, congrArg Reading.watched hread,
    congrArg Reading.colour hread, fun hown => if_neg (mt isMember_iff.1 hown), fun hown => if_pos (isMember_iff.2 hown),
    rfl, reach_pixelTime s _, hframe, hcounter, hsync.trans hsynced, ?_, hpalette, hlog, hpoints, rfl, hport, hmember, hclaim, htable, htints, hsurface, hengine,
    hcommands, hresponses⟩
  rw [hpalette, hcomposed]

end Sys2Proof.Machine
end

section
/-! SUPPORT. The settlement of a contested field: which drivers are left once the lines have settled, and what LDATA then
delivers. -/

namespace Sys2Proof.Machine

/-! ### The drivers of a contest, and the lines it settles on (R25, R69) -/

/-- The words driven, the own one first. -/
def Contest.drivers (c : Contest) : List Lines := c.own.toList ++ c.rivals

/-- LDATA is the wired-AND over the drivers (R25). -/
theorem bus_eq (held : Lines) (c : Contest) : c.bus held = c.drivers.foldl (· &&& ·) held := by
  obtain ⟨own, rivals⟩ := c
  cases own with
  | none => exact congrArg (rivals.foldl (· &&& ·)) BitVec.and_allOnes
  | some w => rfl

theorem filter_drivers (p : Lines → Bool) (c : Contest) :
    ({ own := c.own.filter p, rivals := c.rivals.filter p } : Contest).drivers = c.drivers.filter p := by
  simp only [Contest.drivers, Option.toList_filter, List.filter_append]

/-- What a word drives on the lines given, read as one number: a line driven to 0 counts, the first line most. -/
def standing : List Nat → Lines → Nat
  | [], _ => 0
  | l :: ls, w => (!w.getLsbD l).toNat * 2 ^ ls.length + standing ls w

theorem standing_lt (lines : List Nat) (w : Lines) : standing lines w < 2 ^ lines.length := by
  induction lines with
  | nil => exact Nat.zero_lt_one
  | cons l ls ih =>
    rw [standing, List.length_cons, pow_succ]
    cases w.getLsbD l <;> simp only [Bool.not_false, Bool.not_true, Bool.toNat_true, Bool.toNat_false] <;> omega

/-- Whether no driver of the contest stands above a word. -/
def Contest.tops (c : Contest) (lines : List Nat) (w : Lines) : Bool :=
  c.drivers.all fun v => decide (standing lines v ≤ standing lines w)

theorem tops_iff (c : Contest) (lines : List Nat) (w : Lines) :
    c.tops lines w = true ↔ ∀ v ∈ c.drivers, standing lines v ≤ standing lines w := by
  simp only [Contest.tops, List.all_eq_true, decide_eq_true_eq]

/-- Where nothing else is carried, a line reads 1 exactly where every driver leaves it released. -/
theorem bus_released (c : Contest) {l : Nat} (hl : l < 16) :
    (c.bus released).getLsbD l = c.drivers.all fun v => v.getLsbD l := by
  have hreleased : released.getLsbD l = true := BitVec.getLsbD_allOnes.trans (decide_eq_true hl)
  rw [bus_getLsbD, hreleased, Bool.true_and, Contest.drivers, List.all_append]
  cases c.own with
  | none => simp [hreleased]
  | some w => simp

/-- Where nothing else is carried, a driver stays on a line that it drives, and on one that no driver drives (R69). -/
theorem staysOn_iff (c : Contest) {l : Nat} (hl : l < 16) (w : Lines) :
    staysOn (c.bus released) l w = true ↔ w.getLsbD l = true → ∀ v ∈ c.drivers, v.getLsbD l = true := by
  rw [staysOn, bus_released c hl, Bool.or_eq_true, Bool.not_eq_true', List.all_eq_true, ← Bool.not_eq_true, imp_iff_not_or]

/-- The lexicographic step: a driver that stays on the first line and tops what is left there tops the whole contest. -/
theorem staysOn_and_tops (c : Contest) {l : Nat} (hl : l < 16) (ls : List Nat) {w : Lines} (hw : w ∈ c.drivers) :
    (staysOn (c.bus released) l w = true ∧ (c.settleLine released l).tops ls w = true) ↔ c.tops (l :: ls) w = true := by
  have hleft : ∀ v, v ∈ (c.settleLine released l).drivers ↔
      v ∈ c.drivers ∧ (v.getLsbD l = true → ∀ u ∈ c.drivers, u.getLsbD l = true) := fun v => by
    rw [Contest.settleLine, filter_drivers, List.mem_filter, staysOn_iff c hl]
  have hlt := standing_lt ls
  simp only [staysOn_iff c hl, tops_iff, hleft, standing]
  constructor
  · rintro ⟨hstays, htops⟩ v hv
    cases hwl : w.getLsbD l with
    | true =>
      have hall := hstays hwl
      have hvw := htops v ⟨hv, fun _ => hall⟩
      rw [hall v hv]
      exact Nat.add_le_add_left hvw _
    | false =>
      cases hvl : v.getLsbD l with
      | true =>
        have := hlt v
        simp only [Bool.not_true, Bool.not_false, Bool.toNat_true, Bool.toNat_false]
        omega
      | false =>
        have hvw := htops v ⟨hv, fun hset => absurd_true hvl hset⟩
        omega
  · intro htops
    have hfirst : w.getLsbD l = true → ∀ v ∈ c.drivers, v.getLsbD l = true := fun hwl v hv => by
      by_contra hvl
      have hvw := htops v hv
      have := hlt w
      simp only [Bool.eq_false_iff.2 hvl, hwl, Bool.not_true, Bool.not_false, Bool.toNat_true, Bool.toNat_false] at hvw
      omega
    refine ⟨hfirst, fun v ⟨hv, hvstays⟩ => ?_⟩
    have hsame : v.getLsbD l = w.getLsbD l := by
      cases hwl : w.getLsbD l with
      | true => exact hfirst hwl v hv
      | false => exact Bool.eq_false_iff.2 fun hvl => absurd_true hwl (hvstays hvl w hw)
    have hvw := htops v hv
    rw [hsame] at hvw
    omega

theorem option_filter_congr {α : Type} {p q : α → Bool} {o : Option α} (h : ∀ a, o = some a → p a = q a) :
    o.filter p = o.filter q := by
  cases o with
  | none => rfl
  | some a => rw [Option.filter_some, Option.filter_some, h a rfl]

/-- After a line has settled, this station still drives where its word stays on the line. -/
theorem settleLine_own (held : Lines) (c : Contest) (l : Nat) :
    (c.settleLine held l).own = c.own.filter (staysOn (c.bus held) l) := rfl

/-- Where nothing else is carried, the drivers left once the lines have settled are those that stand highest on them, this
station's word among the rest (R69). -/
theorem foldl_settleLine (lines : List Nat) (hlines : ∀ l ∈ lines, l < 16) (c : Contest) :
    lines.foldl (Contest.settleLine released) c =
      { own := c.own.filter (c.tops lines), rivals := c.rivals.filter (c.tops lines) } := by
  induction lines generalizing c with
  | nil =>
    have hall : c.tops [] = fun _ => true := funext fun w => (tops_iff c [] w).2 fun _ _ => le_rfl
    obtain ⟨own, rivals⟩ := c
    rw [hall]
    cases own <;> simp [Option.filter_some]
  | cons l ls ih =>
    have hstep : ∀ w ∈ c.drivers,
        (staysOn (c.bus released) l w && (c.settleLine released l).tops ls w) = c.tops (l :: ls) w := fun w hw => by
      rw [Bool.eq_iff_iff, Bool.and_eq_true]
      exact staysOn_and_tops c (hlines l List.mem_cons_self) ls hw
    have hown : ∀ w, c.own = some w → w ∈ c.drivers := fun w hw => by simp [Contest.drivers, hw]
    rw [List.foldl_cons, ih (fun l hl => hlines l (List.mem_cons_of_mem _ hl))]
    refine congr (congrArg Contest.mk ?_) ?_
    · rw [settleLine_own, Option.filter_filter]
      exact option_filter_congr fun w hw => hstep w (hown w hw)
    · rw [settleLine_rivals, List.filter_filter]
      refine List.filter_congr fun w hw => ?_
      rw [Bool.and_comm]
      exact hstep w (List.mem_append_right _ hw)

/-- A contest with nothing else carried settles one line after another, each against the lines released. -/
theorem settle_released (lines : List Nat) (c : Contest) :
    Contest.settle ⟨[], released⟩ lines c = lines.foldl (Contest.settleLine released) c := by
  have hcarried : Contest.settle ⟨[], released⟩ lines c =
      lines.zipIdx.foldl (fun c p => Contest.settleLine released c p.1) c := rfl
  rw [hcarried, ← List.foldl_map (f := Prod.fst) (g := Contest.settleLine released), List.zipIdx_map_fst]

end Sys2Proof.Machine
end

section
/-! SUPPORT. The words of a claim round: their layout, what the wired-AND makes of it, and the round as it settles. -/

namespace Sys2Proof.Machine

/-! ### The layout of a claim word (R68, Table 4-2) -/

/-- Two fields side by side, as one number. -/
theorem append_toNat {m n : Nat} (high : BitVec m) (low : BitVec n) :
    (high ++ low).toNat = high.toNat * 2 ^ n + low.toNat := by
  rw [BitVec.toNat_append, ← Nat.shiftLeft_add_eq_or_of_lt low.isLt, Nat.shiftLeft_eq]

theorem claimWord_toNat {key station object : Nat} (hkey : key < 64) (hstation : station < 8) (hobject : object < 64) :
    (claimWord key station object).toNat + (32768 + 512 * key + 64 * station + object) = 65535 := by
  have hk : (BitVec.ofNat 6 key).toNat = key := Nat.mod_eq_of_lt hkey
  have hs : (BitVec.ofNat 3 station).toNat = station := Nat.mod_eq_of_lt hstation
  have ho : (BitVec.ofNat 6 object).toNat = object := Nat.mod_eq_of_lt hobject
  rw [claimWord, BitVec.toNat_not, append_toNat, append_toNat, append_toNat, hk, hs, ho, BitVec.toNat_ofNat]
  omega

theorem claimObject_eq (word : Lines) : claimObject word = (65535 - word.toNat) % 64 := by
  rw [claimObject, BitVec.extractLsb'_toNat, BitVec.toNat_not, Nat.shiftRight_zero]

theorem claimStation_eq (word : Lines) : claimStation word = (65535 - word.toNat) / 64 % 8 := by
  rw [claimStation, BitVec.extractLsb'_toNat, BitVec.toNat_not, Nat.shiftRight_eq_div_pow]

theorem claimKey_eq (word : Lines) : claimKey word = (65535 - word.toNat) / 512 % 64 := by
  rw [claimKey, BitVec.extractLsb'_toNat, BitVec.toNat_not, Nat.shiftRight_eq_div_pow]

theorem isBlank_iff (word : Lines) : isBlank word = true ↔ 32768 ≤ word.toNat := by
  have hlt := word.isLt
  rw [isBlank, BitVec.getLsbD, Nat.testBit_eq_decide_div_mod_eq, decide_eq_true_iff]
  omega

/-- A claim as the triple of its key, its station and its object, within its fields. -/
def ClaimFits (b : Nat × Nat × Nat) : Prop := b.1 < 64 ∧ b.2.1 < 8 ∧ b.2.2 < 64

/-- The word that drives a claim. -/
def wordOf (b : Nat × Nat × Nat) : Lines := claimWord b.1 b.2.1 b.2.2

/-- A claim read back. -/
theorem wordOf_fields {b : Nat × Nat × Nat} (h : ClaimFits b) :
    claimKey (wordOf b) = b.1 ∧ claimStation (wordOf b) = b.2.1 ∧ claimObject (wordOf b) = b.2.2 ∧
      isBlank (wordOf b) = false := by
  obtain ⟨hkey, hstation, hobject⟩ := h
  have hword := claimWord_toNat hkey hstation hobject
  rw [wordOf, claimKey_eq, claimStation_eq, claimObject_eq, Bool.eq_false_iff, ne_eq, isBlank_iff]
  omega

/-! ### The wired-AND of claims (R25, R69) -/

theorem claimKey_and (a b : Lines) : claimKey (a &&& b) = claimKey a ||| claimKey b := by
  simp only [claimKey, BitVec.not_and, BitVec.extractLsb'_or, BitVec.toNat_or]

theorem claimStation_and (a b : Lines) : claimStation (a &&& b) = claimStation a ||| claimStation b := by
  simp only [claimStation, BitVec.not_and, BitVec.extractLsb'_or, BitVec.toNat_or]

theorem claimObject_and (a b : Lines) : claimObject (a &&& b) = claimObject a ||| claimObject b := by
  simp only [claimObject, BitVec.not_and, BitVec.extractLsb'_or, BitVec.toNat_or]

/-- A field that the wired-AND of two words reads as the OR of theirs is read of any number of words as the OR of theirs. -/
theorem foldl_field (field : Lines → Nat) (hand : ∀ a b, field (a &&& b) = field a ||| field b)
    (hreleased : field released = 0) (bs : List (Nat × Nat × Nat)) :
    field ((bs.map wordOf).foldl (· &&& ·) released) = (bs.map fun b => field (wordOf b)).foldl (· ||| ·) 0 := by
  rw [List.foldl_map, List.foldl_map, ← hreleased]
  exact (List.foldl_hom field fun a b => (hand a (wordOf b)).symm).symm

/-- Numbers that are all one number are that number OR-ed together. -/
theorem foldl_or_same {l : List Nat} {m : Nat} (h : ∀ n ∈ l, n = m) (hne : l ≠ []) : l.foldl (· ||| ·) 0 = m := by
  have hkept : l.foldl (· ||| ·) m = m :=
    List.foldlRecOn (motive := fun n => n = m) l _ rfl fun n hn a ha => by rw [hn, h a ha, Nat.or_self]
  cases l with
  | nil => exact absurd rfl hne
  | cons a l =>
    rw [h a List.mem_cons_self, List.foldl_cons, Nat.or_self] at hkept
    rwa [List.foldl_cons, h a List.mem_cons_self, Nat.zero_or]

/-! ### The round (R69) -/

/-- How a word stands on the key lines is the key it drives. -/
theorem standing_keyLines (w : Lines) : standing keyLines w = claimKey w := by
  have hbits : ∀ v : BitVec 6, v.toNat = (v.getLsbD 5).toNat * 32 + ((v.getLsbD 4).toNat * 16 + ((v.getLsbD 3).toNat * 8 +
      ((v.getLsbD 2).toNat * 4 + ((v.getLsbD 1).toNat * 2 + ((v.getLsbD 0).toNat * 1 + 0))))) := by decide
  rw [claimKey, hbits]
  simp only [BitVec.getLsbD_extractLsb', BitVec.getLsbD_not]
  rfl

/-- A claim stands on the key lines by its key. -/
theorem standing_wordOf {b : Nat × Nat × Nat} (h : ClaimFits b) : standing keyLines (wordOf b) = b.1 := by
  rw [standing_keyLines, (wordOf_fields h).1]

/-- A round with a driver: the claims of the highest key are left, and they are what is read. -/
theorem round_settles {c : Contest} {bids : List (Nat × Nat × Nat)} (hdrivers : c.drivers = bids.map wordOf)
    (hfits : ∀ b ∈ bids, ClaimFits b) (hne : bids ≠ []) :
    let settled := Contest.settle ⟨[], released⟩ keyLines c
    let word := settled.bus released
    let survivors := bids.filter fun b => b.1 == claimKey word
    isBlank word = false ∧ (∀ b ∈ bids, b.1 ≤ claimKey word) ∧ survivors ≠ [] ∧
      claimStation word = (survivors.map fun b => b.2.1).foldl (· ||| ·) 0 ∧
      claimObject word = (survivors.map fun b => b.2.2).foldl (· ||| ·) 0 ∧
      settled.own = c.own.filter fun w => claimKey w == claimKey word := by
  intro settled word survivors
  obtain ⟨top, htop, hhighest⟩ := bids.toFinset.exists_max_image (·.1) (List.toFinset_nonempty_iff _ |>.2 hne)
  rw [List.mem_toFinset] at htop
  replace hhighest : ∀ b ∈ bids, b.1 ≤ top.1 := fun b hb => hhighest b (List.mem_toFinset.2 hb)
  have htops : c.tops keyLines = fun w => decide (top.1 ≤ claimKey w) := funext fun w => by
    rw [Bool.eq_iff_iff, tops_iff, hdrivers, decide_eq_true_iff, standing_keyLines]
    refine ⟨fun h => ?_, fun h v hv => ?_⟩
    · exact standing_wordOf (hfits top htop) ▸ h _ (List.mem_map_of_mem htop)
    · obtain ⟨b, hb, rfl⟩ := List.mem_map.1 hv
      exact (standing_wordOf (hfits b hb)).trans_le ((hhighest b hb).trans h)
  have hsettled : settled = { own := c.own.filter (c.tops keyLines), rivals := c.rivals.filter (c.tops keyLines) } :=
    (settle_released keyLines c).trans (foldl_settleLine keyLines (by decide) c)
  have hleft : settled.drivers = (bids.filter fun b => b.1 == top.1).map wordOf := by
    rw [hsettled, filter_drivers, hdrivers, List.filter_map, htops]
    refine congrArg (List.map wordOf) (List.filter_congr fun b hb => ?_)
    rw [Function.comp_apply, (wordOf_fields (hfits b hb)).1, Bool.eq_iff_iff, decide_eq_true_iff, beq_iff_eq]
    have := hhighest b hb
    omega
  have hword : word = ((bids.filter fun b => b.1 == top.1).map wordOf).foldl (· &&& ·) released :=
    (bus_eq released settled).trans (congrArg (List.foldl _ released) hleft)
  have hstand : top ∈ bids.filter fun b => b.1 == top.1 := List.mem_filter.2 ⟨htop, beq_self_eq_true _⟩
  have hstands : ∀ b ∈ bids.filter fun b => b.1 == top.1, ClaimFits b ∧ b.1 = top.1 := fun b hb =>
    ⟨hfits b (List.mem_of_mem_filter hb), beq_iff_eq.1 (List.mem_filter.1 hb).2⟩
  have hkey : claimKey word = top.1 := by
    rw [hword, foldl_field claimKey claimKey_and (by decide)]
    refine foldl_or_same (fun n hn => ?_) (List.ne_nil_of_mem (List.mem_map_of_mem hstand))
    obtain ⟨b, hb, rfl⟩ := List.mem_map.1 hn
    obtain ⟨hfit, hfirst⟩ := hstands b hb
    rw [(wordOf_fields hfit).1, hfirst]
  have hsurvivors : survivors = bids.filter fun b => b.1 == top.1 := by simp only [survivors, hkey]
  have hblank : isBlank word = false := by
    rw [isBlank, bus_released settled (by decide), hleft, List.all_eq_false]
    obtain ⟨-, -, -, hpresent⟩ := wordOf_fields (hfits top htop)
    exact ⟨wordOf top, List.mem_map_of_mem hstand, Bool.eq_false_iff.1 hpresent⟩
  rw [hsurvivors, hkey]
  refine ⟨hblank, hhighest, List.ne_nil_of_mem hstand, ?_, ?_, ?_⟩
  · rw [hword, foldl_field claimStation claimStation_and (by decide)]
    refine congrArg (List.foldl _ 0) (List.map_congr_left fun b hb => ?_)
    obtain ⟨-, hstation, -⟩ := wordOf_fields (hstands b hb).1
    exact hstation
  · rw [hword, foldl_field claimObject claimObject_and (by decide)]
    refine congrArg (List.foldl _ 0) (List.map_congr_left fun b hb => ?_)
    obtain ⟨-, -, hobject, -⟩ := wordOf_fields (hstands b hb).1
    exact hobject
  · rw [hsettled, htops]
    refine option_filter_congr fun w hw => ?_
    have hdriven : w ∈ c.drivers := List.mem_append_left _ (Option.mem_toList.2 hw)
    obtain ⟨b, hb, rfl⟩ := List.mem_map.1 (hdrivers ▸ hdriven)
    rw [(wordOf_fields (hfits b hb)).1, Bool.eq_iff_iff, decide_eq_true_iff, beq_iff_eq]
    have := hhighest b hb
    omega

/-- Settles O35: a round with drivers settles as `round_settles` says, whoever drives it; one without is all released. -/
theorem roundSettlesOnTheHighestKey : Obligations.RoundSettlesOnTheHighestKey := by
  unfold Obligations.RoundSettlesOnTheHighestKey
  refine ⟨fun key station object => claimWord_toNat,
    fun word => ⟨claimObject_eq word, claimStation_eq word, claimKey_eq word, isBlank_iff word⟩,
    fun held c => ⟨bus_eq held.reading c, rfl⟩, fun own others hfits => ?_, fun others hfits => ?_⟩
  · obtain ⟨hblank, hhighest, hsurvivors, hstation, hobject, hown⟩ := round_settles
      (c := { own := some (wordOf own), rivals := others.map wordOf }) (bids := own :: others) rfl hfits
      (List.cons_ne_nil own others)
    refine ⟨hblank, hhighest, hsurvivors, hstation, hobject, ?_⟩
    refine (Bool.eq_iff_iff.1 (congrArg Option.isSome hown)).trans ?_
    rw [Option.isSome_filter, Option.any_some, beq_iff_eq, (wordOf_fields (hfits own List.mem_cons_self)).1]
    exact Iff.rfl
  · have hsilent : (Contest.settle ⟨[], released⟩ keyLines { own := none, rivals := others.map wordOf }).own = none := by
      rw [settle_released, foldl_settleLine keyLines (by decide)]
      rfl
    refine ⟨hsilent, fun hempty => ?_, fun hne => ?_⟩
    · subst hempty
      exact ⟨by decide, by decide⟩
    · obtain ⟨hblank, hhighest, hsurvivors, hstation, hobject, -⟩ := round_settles
        (c := { own := none, rivals := others.map wordOf }) (bids := others) rfl hfits hne
      exact ⟨hblank, hhighest, hsurvivors, hstation, hobject⟩

end Sys2Proof.Machine
end

section
/-! SUPPORT. The Membership Unit's commands, the own state at a frame mark, and what a complete window decides. -/

namespace Sys2Proof.Machine

/-! ### READ MEMBERS and DETACH (R51, R63) -/

/-- The four bytes of an entry (Table 3-4). -/
theorem memberImage_eq (e : MemberEntry) :
    memberImage e = [BitVec.ofNat 8 (e.present.toNat + 2 * e.joining.toNat + 4 * e.missed), e.code,
      (0#1 ++ e.nonce : BitVec 8), e.framePresent] := by
  have hnonce : BitVec.ofNat 8 e.nonce.toNat = (0#1 ++ e.nonce : BitVec 8) := by
    have hlt := e.nonce.isLt
    refine BitVec.eq_of_toNat_eq ?_
    rw [append_toNat, BitVec.toNat_ofNat, BitVec.toNat_ofNat]
    omega
  rw [memberImage, byte1, byte1, hnonce]

/-- Settles O30: READ MEMBERS only answers. -/
theorem readMembersReturnsTheTable : Obligations.ReadMembersReturnsTheTable := by
  unfold Obligations.ReadMembersReturnsTheTable
  intro s tag rest h
  refine (taking_of h (runs_ordinary (c := .readMembers) rfl rfl)).trans ?_
  rw [← funext memberImage_eq]
  rfl

/-- A window held stops counting as the station enters any state but LISTEN (R52). -/
theorem entering_silences {new : OwnState} (h : new ≠ .listen) (time : Nat) (w : AnnounceWindow) :
    w.entering new time = { w with listening := false } := by
  have hcounts : (w.entering new time).listening = false :=
    Bool.eq_false_iff.2 fun hc => h ((entering_listening new time w).1 hc).1
  rw [← hcounts]
  rfl

/-- A change to a state that neither drives nor listens, whole (R30, R43, R52, R55, R64). -/
theorem changeState_leaves (s : State) {new : OwnState} (hd : new.drives = false) (hl : new ≠ .listen) :
    s.changeState new = { s with
      port := { s.port with events := { s.port.events with state := oneMore s.port.events.state } }
      link := { s.link with
        lineTimer := none, lmark := none, frameDriven := s.link.frameStood, ldata := released, ldataJoin := released }
      member := { s.member with
        own := new, listenCount := 0, windowWait := 0, admitted := false, detachPending := false
        announce := s.member.announce.map fun w => { w with listening := false } } } := by
  rw [changeState_eq, changeState_link_silent s new hd, raise_state, funext (entering_silences hl s.link.pixelTime)]

/-- DETACH in a state that is neither MEMBER nor DETACHED takes effect at once (R63). -/
theorem detach_atOnce {s : State} (hm : s.member.own ≠ .member) (hd : s.member.own ≠ .detached) (e : Entry) :
    s.detach e = (s.changeState .detached).answer e .ok [] := by
  unfold State.detach
  split
  · exact absurd ‹_› hm
  · exact absurd ‹_› hd
  all_goals rfl

/-- Settles O31: DETACH waits for the next mark in MEMBER, is refused in DETACHED, and acts at once in every other state. -/
theorem detachActsByTheOwnState : Obligations.DetachActsByTheOwnState := by
  unfold Obligations.DetachActsByTheOwnState
  intro s tag rest h
  have hacts : exec .detach s = .next ((s.without rest).detach (.ordinary 0x62#8 tag [])) :=
    taking_of h (runs_ordinary (c := .detach) rfl rfl)
  refine ⟨fun hown => ?_, fun hown => ?_, fun hm hd => ?_⟩
  · simp only [hacts, State.detach, State.without_member, hown]
    rfl
  · simp only [hacts, State.detach, State.without_member, hown]
    rfl
  · rw [hacts, detach_atOnce (s := s.without rest) hm hd, changeState_leaves (new := .detached) _ rfl (by decide)]
    rfl

/-! ### The own state at a frame mark (R52, R55, R58, R64) -/

/-- A station has entered a state: the counts and flags of its stay begin anew, and STATE is raised once (R43, R52, R55, R64). -/
structure State.Enters (s t : State) (new : OwnState) : Prop where
  member : t.member = { s.member with
    own := new, listenCount := 0, windowWait := 0, admitted := false, detachPending := false, announce := t.member.announce }
  raised : t.port.events.state = oneMore s.port.events.state

theorem State.Enters.fields {s t : State} {new : OwnState} (h : s.Enters t new) :
    t.member.own = new ∧ t.member.listenCount = 0 ∧ t.member.windowWait = 0 ∧ t.member.admitted = false ∧
      t.member.detachPending = false :=
  ⟨congrArg Membership.own h.member, congrArg Membership.listenCount h.member, congrArg Membership.windowWait h.member,
    congrArg Membership.admitted h.member, congrArg Membership.detachPending h.member⟩

/-- Whatever state it is, the counts and flags are cleared, and nothing else of the Membership Unit but the window changes. -/
theorem State.Enters.clears {s t : State} {new : OwnState} (h : s.Enters t new) :
    t.member = { s.member with
      own := t.member.own, listenCount := 0, windowWait := 0, admitted := false, detachPending := false
      announce := t.member.announce } ∧
    t.port.events.state = oneMore s.port.events.state ∧ t.member.admitted = false ∧ t.member.detachPending = false ∧
      t.member.listenCount = 0 := by
  obtain ⟨hown, hlisten, -, hadmitted, hdetach⟩ := h.fields
  exact ⟨hown ▸ h.member, h.raised, hadmitted, hdetach, hlisten⟩

theorem changeState_enters (s : State) (new : OwnState) : s.Enters (s.changeState new) new := by
  rw [changeState_eq]
  exact ⟨rfl, saturate_oneMore _⟩

/-- A detach pending takes effect at the mark (R64). -/
def State.Detaches (s : State) : Prop := s.member.detachPending = true ∧ s.member.own = .member

/-- An admitted station becomes MEMBER at a frame mark (R58). -/
def State.Admits (s : State) : Prop :=
  s.member.admitted = true ∧ (s.member.own = .founding ∨ s.member.own = .joining)

/-- The window wait of a synced station comes to its third mark (R55). -/
def State.ThirdWait (s : State) (wasSynced : Bool) : Prop :=
  (wasSynced = true ∧ s.member.own.waits = true) ∧ 2 ≤ s.member.windowWait

/-- What the flags make of the own state at a frame mark. -/
theorem consumeFlags_frame_cases (s : State) :
    (s.Detaches ∧ s.consumeFlags .frame = s.changeState .detached) ∨
    (s.Admits ∧ s.consumeFlags .frame = s.changeState .member) ∨
    (¬s.Detaches ∧ ¬s.Admits ∧ s.consumeFlags .frame = s) := by
  have hdetaches : (s.member.detachPending && s.isMember) = true ↔ s.Detaches := by
    rw [Bool.and_eq_true, isMember_iff, State.Detaches]
  have hadmits : (decide (MarkKind.frame = .frame) && s.member.admitted &&
      (s.member.own == .founding || s.member.own == .joining)) = true ↔ s.Admits := by
    simp [State.Admits]
  unfold State.consumeFlags
  split
  · exact .inl ⟨hdetaches.1 ‹_›, rfl⟩
  · split
    · exact .inr (.inl ⟨hadmits.1 ‹_›, rfl⟩)
    · exact .inr (.inr ⟨mt hdetaches.2 ‹_›, mt hadmits.2 ‹_›, rfl⟩)

/-- The window wait goes up by one where it is counted (R55). -/
def State.waited (s : State) (wasSynced : Bool) : State :=
  { s with member := { s.member with
      windowWait := if wasSynced = true ∧ s.member.own.waits = true then s.member.windowWait + 1 else s.member.windowWait } }

theorem frameMembership_third {s : State} {wasSynced : Bool} (h : s.ThirdWait wasSynced) :
    s.frameMembership wasSynced = s.changeState .refused := by
  obtain ⟨hwaits, hthird⟩ := h
  rw [State.frameMembership, if_pos (Bool.and_eq_true_iff.2 hwaits), if_pos (Nat.succ_le_succ hthird)]

theorem frameMembership_waited {s : State} {wasSynced : Bool} (h : ¬s.ThirdWait wasSynced) :
    s.frameMembership wasSynced = (s.waited wasSynced).consumeFlags .frame := by
  by_cases hwaits : wasSynced = true ∧ s.member.own.waits = true
  · rw [State.frameMembership, if_pos (Bool.and_eq_true_iff.2 hwaits),
      if_neg fun hthird => h ⟨hwaits, Nat.le_of_succ_le_succ hthird⟩, State.waited, if_pos hwaits]
  · rw [State.frameMembership, if_neg (mt Bool.and_eq_true_iff.1 hwaits), State.waited, if_neg hwaits]

/-- The own state at a frame mark: it changes for one of three causes, or it stays, and only the window wait count changes (R55,
R58, R64). -/
theorem frameMembership_cases (s : State) (wasSynced : Bool) :
    (s.ThirdWait wasSynced ∧ s.Enters (s.frameMembership wasSynced) .refused) ∨
    (¬s.ThirdWait wasSynced ∧ s.Detaches ∧ s.Enters (s.frameMembership wasSynced) .detached) ∨
    (¬s.ThirdWait wasSynced ∧ s.Admits ∧ s.Enters (s.frameMembership wasSynced) .member) ∨
    (¬s.ThirdWait wasSynced ∧ ¬s.Detaches ∧ ¬s.Admits ∧ s.frameMembership wasSynced = s.waited wasSynced) := by
  by_cases hthird : s.ThirdWait wasSynced
  · rw [frameMembership_third hthird]
    exact .inl ⟨hthird, changeState_enters s _⟩
  · rw [frameMembership_waited hthird]
    obtain ⟨h, heq⟩ | ⟨h, heq⟩ | ⟨hd, ha, heq⟩ := consumeFlags_frame_cases (s.waited wasSynced) <;> rw [heq]
    · exact .inr (.inl ⟨hthird, h, { changeState_enters (s.waited wasSynced) _ with }⟩)
    · exact .inr (.inr (.inl ⟨hthird, h, { changeState_enters (s.waited wasSynced) _ with }⟩))
    · exact .inr (.inr (.inr ⟨hthird, hd, ha, rfl⟩))

theorem waits_iff (own : OwnState) :
    own.waits = true ↔ own = .listen ∨ own = .founding ∨ own = .joining ∨ own = .member := by
  cases own <;> decide

/-- The Membership Unit and STATE as a frame mark finds them, once the clocks and the counters are set (R34). -/
theorem frameCount_member (s : State) :
    s.clocked.frameCount.member = s.member ∧ s.clocked.frameCount.port.events.state = s.port.events.state := by
  rw [frameCount_eq, clocked_port]
  exact ⟨clocked_member s, rfl⟩

/-- The own state at the decision point of a frame mark: `frameMembership_cases` of the station that takes it. -/
theorem frameCounted_cases (s : State) :
    (s.ThirdWait s.link.synced ∧ s.Enters s.frameCounted .refused) ∨
    (¬s.ThirdWait s.link.synced ∧ s.Detaches ∧ s.Enters s.frameCounted .detached) ∨
    (¬s.ThirdWait s.link.synced ∧ s.Admits ∧ s.Enters s.frameCounted .member) ∨
    (¬s.ThirdWait s.link.synced ∧ ¬s.Detaches ∧ ¬s.Admits ∧ s.frameCounted.member = (s.waited s.link.synced).member ∧
      s.frameCounted.port.events.state = s.port.events.state) := by
  obtain ⟨hmember, hstate⟩ := frameCount_member s
  have henters : ∀ {t new}, s.clocked.frameCount.Enters t new → s.Enters t new := fun h =>
    ⟨hmember ▸ h.member, hstate ▸ h.raised⟩
  have hcases := frameMembership_cases s.clocked.frameCount s.link.synced
  simp only [State.ThirdWait, State.Detaches, State.Admits, hmember] at hcases
  obtain ⟨hthird, h⟩ | ⟨hthird, hd, h⟩ | ⟨hthird, ha, h⟩ | ⟨hthird, hd, ha, h⟩ := hcases
  · exact .inl ⟨hthird, henters h⟩
  · exact .inr (.inl ⟨hthird, hd, henters h⟩)
  · exact .inr (.inr (.inl ⟨hthird, ha, henters h⟩))
  · refine .inr (.inr (.inr ⟨hthird, hd, ha, ?_, ?_⟩))
    · rw [State.frameCounted, h, State.waited, State.waited, hmember]
    · rw [State.frameCounted, h, ← hstate]
      rfl

/-- Settles O24: the cases of `frameCounted_cases`; whatever follows at a frame mark leaves the Membership Unit and STATE. -/
theorem frameMarkChangesTheOwnState : Obligations.FrameMarkChangesTheOwnState := by
  unfold Obligations.FrameMarkChangesTheOwnState
  intro s hp he waits detaches admits
  have hthird : s.ThirdWait s.link.synced ↔ waits ∧ 2 ≤ s.member.windowWait := by rw [State.ThirdWait, waits_iff]
  refine ⟨_, (exec_frameMark hp).trans (congrArg Host.Outcome.next (takeMark_frame he)), ?_⟩
  rw [takeFrameMark_whole, ← hthird]
  obtain ⟨h, hnew⟩ | ⟨h, ⟨hpending, hmember⟩, hnew⟩ | ⟨h, ⟨hadmitted, hjoins⟩, hnew⟩ | ⟨h, hd, ha, hmember, hstate⟩ :=
    frameCounted_cases s
  · obtain ⟨hown, -, hwait, -⟩ := hnew.fields
    exact ⟨fun _ _ => ⟨hown, hwait⟩, fun hn => absurd h hn, fun hn => absurd h hn, fun hn => absurd h hn,
      fun _ => hnew.clears.1, fun _ => hnew.clears.2, fun hn => absurd h hn⟩
  · obtain ⟨hown, -, hwait, -⟩ := hnew.fields
    refine ⟨fun hw h2 => absurd (hthird.2 ⟨hw, h2⟩) h, fun _ _ => ⟨hown, hwait⟩, fun _ hn => ?_,
      fun _ hn => absurd ⟨hpending, hmember⟩ hn, fun _ => hnew.clears.1, fun _ => hnew.clears.2, fun _ hsame => ?_⟩
    · exact hn.2.elim (fun hj => absurd (hmember.symm.trans hj) nofun) fun hj => absurd (hmember.symm.trans hj) nofun
    · exact absurd (hown.symm.trans (hsame.trans hmember)) nofun
  · obtain ⟨hown, -, hwait, -⟩ := hnew.fields
    have hother : s.member.own ≠ .member := by obtain hj | hj := hjoins <;> rw [hj] <;> nofun
    exact ⟨fun hw h2 => absurd (hthird.2 ⟨hw, h2⟩) h, fun _ hn => absurd hn.2 hother, fun _ _ => ⟨hown, hwait⟩,
      fun _ _ hn => absurd ⟨hadmitted, hjoins⟩ hn, fun _ => hnew.clears.1, fun _ => hnew.clears.2,
      fun _ hsame => absurd (hsame.symm.trans hown) hother⟩
  · have hown : s.frameCounted.member.own = s.member.own := (congrArg Membership.own hmember :)
    refine ⟨fun hw h2 => absurd (hthird.2 ⟨hw, h2⟩) h, fun _ hn => absurd hn hd, fun _ hn => absurd hn ha, fun _ _ _ => ?_,
      fun hn => absurd hown hn, fun hn => absurd hown hn, fun _ _ => hstate⟩
    dsimp only
    rw [hmember]
    exact ⟨rfl, rfl, rfl, rfl⟩

/-! ### What a complete window decides (R52, R53, R61) -/

/-- The first complete window of a stay in LISTEN is counted (R52). -/
theorem completeWindow_first {s : State} {w : AnnounceWindow} (hown : s.member.own = .listen) (hw : w.listening = true)
    (hfirst : s.member.listenCount = 0) :
    s.completeWindow w = { s.windowEnded with member := { s.windowEnded.member with listenCount := 1 } } := by
  simp [State.completeWindow, State.countListen, State.windowEnded, hown, hw, hfirst]

/-- The second brings the join decision (R52, R53). -/
theorem completeWindow_second {s : State} {w : AnnounceWindow} (hown : s.member.own = .listen) (hw : w.listening = true)
    (hsecond : 1 ≤ s.member.listenCount) :
    s.completeWindow w = s.windowEnded.changeState (s.windowEnded.joinDecision w.heard) := by
  simp [State.completeWindow, State.countListen, State.windowEnded, hown, hw, hsecond]

/-- A window that did not begin in the present stay in LISTEN decides nothing (R52). -/
theorem completeWindow_notListened {s : State} {w : AnnounceWindow} (hown : s.member.own = .listen) (hw : w.listening = false) :
    s.completeWindow w = s.windowEnded := by
  simp [State.completeWindow, State.windowEnded, State.isMember, hown, hw]

/-- A member makes the agreement test (R61). -/
theorem completeWindow_member {s : State} (hown : s.member.own = .member) (w : AnnounceWindow) :
    s.completeWindow w = s.windowEnded.agreementTest := by
  simp [State.completeWindow, State.windowEnded, State.isMember, hown]

theorem disagrees_iff (code : Byte) (e : MemberEntry) : disagrees code e = true ↔ e.present = true ∧ e.code ≠ code := by
  rw [disagrees, Bool.and_eq_true, bne_iff_ne]

/-- The four tests of the join decision, in their order (R53). -/
theorem joinDecision_tests (s : State) (heard : List Nat) :
    (s.stationNumber ∈ heard → s.joinDecision heard = .conflict) ∧
    (s.stationNumber ∉ heard → (∃ e ∈ s.member.members, e.present = true ∧ e.code ≠ s.geometry.code) →
      s.joinDecision heard = .refused) ∧
    (s.stationNumber ∉ heard → (∀ e ∈ s.member.members, e.present = true → e.code = s.geometry.code) → heard = [] →
      s.joinDecision heard = .refused) ∧
    (s.stationNumber ∉ heard → (∀ e ∈ s.member.members, e.present = true → e.code = s.geometry.code) → heard ≠ [] →
      s.joinDecision heard = .joining) := by
  have hdisagree : s.member.members.any (disagrees s.geometry.code) = true ↔
      ∃ e ∈ s.member.members, e.present = true ∧ e.code ≠ s.geometry.code := by
    simp only [List.any_eq_true, disagrees_iff]
  have hagree : (∀ e ∈ s.member.members, e.present = true → e.code = s.geometry.code) →
      ¬s.member.members.any (disagrees s.geometry.code) = true := fun h hn => by
    obtain ⟨e, he, hpresent, hcode⟩ := hdisagree.1 hn
    exact hcode (h e he hpresent)
  unfold State.joinDecision
  simp only [List.contains_iff_mem]
  refine ⟨fun h => if_pos h, fun h hd => ?_, fun h ha hsilent => ?_, fun h ha hheard => ?_⟩
  · rw [if_neg h, if_pos (hdisagree.2 hd)]
  · rw [if_neg h, if_neg (hagree ha), hsilent]
    rfl
  · rw [if_neg h, if_neg (hagree ha), if_neg (mt List.isEmpty_iff.1 hheard)]

/-- The agreement test sends a member to REFUSED, with STATE once, where an entry numbered below its own disagrees (R43, R61). -/
theorem agreementTest_decides {s : State} (hown : s.member.own = .member) :
    s.agreementTest.member.own =
      (if (s.member.members.take s.stationNumber).any (disagrees s.geometry.code) then .refused else .member) ∧
    s.agreementTest.port.events.state =
      (if s.agreementTest.member.own = .refused then oneMore s.port.events.state else s.port.events.state) ∧
    s.agreementTest.member.members = s.member.members := by
  unfold State.agreementTest
  split
  · obtain ⟨hrefused, -⟩ := (changeState_enters s .refused).fields
    rw [hrefused, changeState_eq]
    exact ⟨rfl, saturate_oneMore _, rfl⟩
  · rw [hown]
    exact ⟨rfl, rfl, rfl⟩

/-- What the Member Table's taking of another station's place leaves as it was. -/
theorem otherPlaceTaken_kept (s : State) (n : Nat) (others : Lines) :
    let t := s.otherPlaceTaken n others
    t.straps = s.straps ∧ t.port.events.state = s.port.events.state ∧
      t.member = { s.member with members := t.member.members } := by
  obtain ⟨-, hstraps, -⟩ := reach_frame s (placeEnd n)
  rw [otherPlaceTaken_eq]
  exact ⟨hstraps, placeEvents_state _ _ _, rfl⟩

/-- Place 7 of another station, or of a station that drives none, completes the window. -/
theorem exec_lastPlace_other {s : State} {w : AnnounceWindow} (hp : s.resetPin = false) (hs : s.link.synced = true)
    (hline : s.link.pixelTime < s.geometry.linePixels) (ha : s.member.announce = some w) (hw : w.wordRead = true)
    (h7 : w.place = 7) (hother : s.member.own.drives = false ∨ 7 ≠ s.straps.station.toNat) (others : Lines) :
    exec (.announcePlace others) s =
      .next ((s.otherPlaceTaken 7 others).completeWindow (w.after (placeHeard others))) := by
  rw [exec_otherPlace hp hs hline ha hw (h7 ▸ hother), h7, nextPlace_ends (congrArg (· + 1) h7)]

/-- Place 7 completes the window of a member that does not drive it, and of one that reads it back clean. -/
theorem exec_lastPlace_member {s : State} {w : AnnounceWindow} {others : Lines} (hp : s.resetPin = false)
    (hs : s.link.synced = true) (hline : s.link.pixelTime < s.geometry.linePixels) (ha : s.member.announce = some w)
    (hw : w.wordRead = true) (h7 : w.place = 7) (hown : s.member.own = .member)
    (hclean : s.straps.station.toNat ≠ 7 ∨ others &&& s.announce = s.announce) :
    ∃ (u : State) (ended : AnnounceWindow), exec (.announcePlace others) s = .next (u.completeWindow ended) ∧
      u.straps = s.straps ∧ u.port.events.state = s.port.events.state ∧ u.member.own = .member := by
  by_cases hstation : s.straps.station.toNat = 7
  · have hread := hclean.resolve_left (absurd hstation)
    obtain ⟨listening, hacts⟩ :=
      exec_ownPlace hp hs hline ha hw (h7.trans hstation.symm) (congrArg OwnState.drives hown) others
    obtain ⟨hmember, -, hstate⟩ := ownPlaceRead_clean hread
    obtain ⟨-, hstraps, -⟩ := reach_frame s (placeEnd s.stationNumber)
    rw [nextPlace_ends (congrArg (· + 1) h7)] at hacts
    refine ⟨_, _, hacts, ?_, hstate, (congrArg Membership.own hmember).trans hown⟩
    rw [State.ownPlaceRead, readBackPlace_clean hread, ownPlaceEnd_eq]
    exact hstraps
  · obtain ⟨hstraps, hstate, hmember⟩ := otherPlaceTaken_kept s 7 others
    exact ⟨_, _, exec_lastPlace_other hp hs hline ha hw h7 (.inr (Ne.symm hstation)) others, hstraps, hstate,
      (congrArg Membership.own hmember).trans hown⟩

/-- Settles O29: what the window decides, on the Member Table as place 7 leaves it. -/
theorem completeWindowDecides : Obligations.CompleteWindowDecides := by
  unfold Obligations.CompleteWindowDecides
  refine ⟨fun s w others hp hs hline ha hw h7 hown hlistening => ?_, fun s w others hp hs hline ha hw h7 hown hsilent => ?_,
    fun s w others hp hs hline ha hw h7 hown => ?_⟩
  · intro heard own
    have hacts := exec_lastPlace_other hp hs hline ha hw h7 (.inl (congrArg OwnState.drives hown)) others
    have hheard : (w.after (placeHeard others)).heard = heard := by rw [after_heard, h7]
    have hcounts : (w.after (placeHeard others)).listening = true := hlistening
    obtain ⟨hstraps, hstate, hmember⟩ := otherPlaceTaken_kept s 7 others
    generalize s.otherPlaceTaken 7 others = u at hacts hstraps hstate hmember
    obtain ⟨hannounce, hwait⟩ := completeWindow_over u (w.after (placeHeard others))
    refine ⟨_, hacts, hannounce, hwait, fun hfirst => ?_, fun hsecond => ?_⟩
    · rw [completeWindow_first (by rw [hmember, hown]) hcounts (by rw [hmember, hfirst])]
      exact ⟨(congrArg Membership.own hmember).trans hown, rfl, hstate⟩
    · obtain ⟨hconflict, hrefused, hlone, hjoining⟩ := joinDecision_tests u.windowEnded heard
      have hstation : u.windowEnded.stationNumber = s.straps.station.toNat := by rw [← hstraps]; rfl
      have hcode : u.windowEnded.geometry.code = own := by rw [geometry_code]; exact hstraps ▸ rfl
      rw [hstation] at hconflict hrefused hlone hjoining
      rw [hcode] at hrefused hlone hjoining
      rw [completeWindow_second (by rw [hmember, hown]) hcounts (by rw [hmember]; exact hsecond), hheard]
      obtain ⟨hnew, hlisten, -⟩ := (changeState_enters u.windowEnded (u.windowEnded.joinDecision heard)).fields
      have hmembers := (changeState_ownChange u.windowEnded (u.windowEnded.joinDecision heard)).members
      have hraised := (changeState_enters u.windowEnded (u.windowEnded.joinDecision heard)).raised
      rw [hnew, hmembers]
      refine ⟨hlisten, hraised.trans (congrArg oneMore hstate), hconflict, hrefused, hlone, fun hout hagree hsome => ?_⟩
      have hjoins := hjoining hout hagree hsome
      rw [hjoins, changeState_link_drives _ _ rfl]
      exact ⟨rfl, rfl⟩
  · have hacts := exec_lastPlace_other hp hs hline ha hw h7 (.inl (congrArg OwnState.drives hown)) others
    obtain ⟨-, hstate, hmember⟩ := otherPlaceTaken_kept s 7 others
    refine ⟨_, hacts, ?_⟩
    rw [completeWindow_notListened (w := w.after (placeHeard others)) (by rw [hmember, hown]) hsilent]
    exact ⟨rfl, rfl, (congrArg Membership.own hmember).trans hown, (congrArg Membership.listenCount hmember :), hstate⟩
  · intro driven hclean
    have hannounced : s.announce = driven := by
      rw [announce_eq, hown]
      rfl
    obtain ⟨u, ended, hacts, hstraps, hstate, hmember⟩ :=
      exec_lastPlace_member hp hs hline ha hw h7 hown (hannounced ▸ hclean)
    obtain ⟨hannounce, hwait⟩ := completeWindow_over u ended
    obtain ⟨hdecided, hraised, hmembers⟩ := agreementTest_decides (s := u.windowEnded) hmember
    have hstation : u.windowEnded.stationNumber = s.straps.station.toNat := by rw [← hstraps]; rfl
    have hcode : u.windowEnded.geometry.code = BitVec.ofNat 8 (0x50 + s.straps.preset.toNat) := by
      rw [geometry_code]
      exact hstraps ▸ rfl
    rw [hstation, hcode] at hdecided
    refine ⟨_, hacts, hannounce, hwait, ?_⟩
    rw [completeWindow_member hmember, hmembers]
    exact ⟨hdecided, hraised.trans (by rw [← hstate]; rfl)⟩

end Sys2Proof.Machine
end

section
/-! SUPPORT. A driven claim round: the comparison with the bid, and the end of the round on it. -/

namespace Sys2Proof.Machine

/-! ### The bidder (R71) -/

theorem bidder_head {s : State} {c : Candidate} {rest : List Candidate} (hown : s.member.own = .member)
    (hlist : s.claim.candidates = c :: rest) : s.bidder = some c := by
  rw [State.bidder, if_pos (isMember_iff.2 hown), hlist]
  rfl

theorem bidder_none {s : State} (h : s.member.own ≠ .member ∨ s.claim.candidates = []) : s.bidder = none := by
  unfold State.bidder
  obtain hother | hempty := h
  · exact if_neg (mt isMember_iff.1 hother)
  · rw [hempty, List.head?_nil, ite_self]

/-- Only a member with candidates left bids. -/
theorem bidder_some {s : State} {c : Candidate} (h : s.bidder = some c) :
    s.member.own = .member ∧ s.claim.candidates ≠ [] := by
  constructor
  · exact by_contra fun hother => nomatch (bidder_none (.inl hother)).symm.trans h
  · exact fun hempty => nomatch (bidder_none (.inr hempty)).symm.trans h

/-! ### The comparison of the round with the bid (R74, R75) -/

theorem readsOwn_iff (s : State) (word : Lines) (c : Candidate) :
    s.readsOwn word c = true ↔ claimStation word = s.straps.station.toNat ∧ claimObject word = c.object := by
  rw [State.readsOwn, Bool.and_eq_true, beq_iff_eq, beq_iff_eq]
  rfl

theorem compareBid_none {s : State} (h : s.bidder = none) (r : Nat) (word : Lines) (stayed repeated : Bool) :
    s.compareBid r word stayed repeated = s := by
  simp only [State.compareBid, h]

section
variable {s : State} {c : Candidate} {word : Lines} {stayed repeated : Bool}

/-- The bidder that stayed and reads its own station and object in a round recorded has won (R74). -/
theorem compareBid_won (hb : s.bidder = some c) (hread : s.readsOwn word c = true) (hstayed : stayed = true)
    (hnew : repeated = false) (r : Nat) : s.compareBid r word stayed repeated = s.grantHead r c := by
  simp [State.compareBid, hb, hread, hstayed, hnew]

/-- One that withdrew, or reads a pair that stands in the grant list, has not (R73, R74). -/
theorem compareBid_notWon (hb : s.bidder = some c) (hread : s.readsOwn word c = true) (h : stayed = false ∨ repeated = true)
    (r : Nat) : s.compareBid r word stayed repeated = s := by
  obtain rfl | rfl := h <;> simp [State.compareBid, hb, hread]

/-- The bidder that reads its own key with another station or object goes to CONFLICT (R75). -/
theorem compareBid_mismatch (hb : s.bidder = some c) (hread : ¬s.readsOwn word c = true) (hkey : claimKey word = s.keyFor c)
    (r : Nat) : s.compareBid r word stayed repeated = s.changeState .conflict := by
  simp [State.compareBid, hb, hread, hkey]

/-- Another key than its own is another bidder's round. -/
theorem compareBid_lost (hb : s.bidder = some c) (hread : ¬s.readsOwn word c = true) (hkey : claimKey word ≠ s.keyFor c)
    (r : Nat) : s.compareBid r word stayed repeated = s := by
  simp [State.compareBid, hb, hread, hkey]

end

/-- A comparison changes the own state only of a member that bids, to CONFLICT; any other keeps the Membership Unit, and raises
nothing (R43, R75). -/
theorem compareBid_own (s : State) (r : Nat) (word : Lines) (stayed repeated : Bool) :
    ((s.compareBid r word stayed repeated).member = s.member ∧ (s.compareBid r word stayed repeated).port = s.port) ∨
    ((s.compareBid r word stayed repeated).member.own = .conflict ∧ s.member.own = .member ∧ s.claim.candidates ≠ []) := by
  cases hb : s.bidder with
  | none =>
    rw [compareBid_none hb]
    exact .inl ⟨rfl, rfl⟩
  | some c =>
    obtain heq | heq | ⟨-, c', heq⟩ := compareBid_cases s r word stayed repeated <;> rw [heq]
    · exact .inl ⟨rfl, rfl⟩
    · exact .inr ⟨(changeState_enters s .conflict).fields.1, bidder_some hb⟩
    · exact .inl ⟨rfl, rfl⟩

/-- What the comparison leaves as it was: beside the Membership Unit and STATE, only the candidates, the own grants and the lines
driven change. -/
structure State.BidFrame (s t : State) : Prop where
  table : t.table = s.table
  surface : t.surface = s.surface
  engine : t.engine = s.engine
  picks : t.picks = s.picks
  collisions : t.collisions = s.collisions
  lines : t.lines = s.lines
  responses : t.port.responses = s.port.responses
  grants : t.claim.grants = s.claim.grants
  current : t.claim.current = s.claim.current
  last : t.claim.last = s.claim.last
  pixelTime : t.link.pixelTime = s.link.pixelTime
  frameNumber : t.link.frameNumber = s.link.frameNumber
  lineCounter : t.link.lineCounter = s.link.lineCounter
  synced : t.link.synced = s.link.synced

theorem compareBid_bidFrame (s : State) (r : Nat) (word : Lines) (stayed repeated : Bool) :
    s.BidFrame (s.compareBid r word stayed repeated) := by
  obtain heq | heq | ⟨-, c, heq⟩ := compareBid_cases s r word stayed repeated <;> rw [heq]
  · constructor <;> rfl
  · obtain ⟨-, -, hcounter, hframe, hsynced, htime, -⟩ := changeState_link_frame s .conflict
    rw [changeState_eq]
    constructor
    case pixelTime => exact htime
    case frameNumber => exact hframe
    case lineCounter => exact hcounter
    case synced => exact hsynced
    all_goals rfl
  · constructor <;> rfl

/-! ### The end of the round (R72, R73, R76, R82, R87) -/

/-- A round has ended on a comparison: the entry of the grant list aside, the window goes on with nothing else changed, or it
closes with its denials, the active part and the fetch to follow. -/
structure State.RoundEnds (s t : State) : Prop where
  member : t.member = s.member
  link : t.link = s.link
  port : t.port = s.port
  table : t.table = s.table
  surface : t.surface = s.surface
  engine : t.engine = s.engine
  picks : t.picks = s.picks
  collisions : t.collisions = s.collisions
  candidates : t.claim.candidates = s.claim.candidates
  ownGrants : t.claim.ownGrants = s.claim.ownGrants
  last : t.claim.last = s.claim.last
  goesOn : t.claim.window ≠ none → t.claim.current = s.claim.current ∧ t.lines = s.lines
  closed : t.claim.window = none →
    t.claim.current = (s.claim.candidates.map Candidate.object).foldl (Shortfall.deny s.link.lineCounter false) s.claim.current ∧
    t.lines.column = some 0 ∧ t.lines.report = s.lines.report
  idle : t.claim.window = none → s.member.own ≠ .member ∨ s.claim.ownGrants = [] →
    t.lines.buffer = s.lines.buffer ∧ t.lines.fetching = s.lines.fetching
  fetches : t.claim.window = none → ∀ g rest, s.member.own = .member → s.claim.ownGrants = g :: rest →
    t.lines.fetching = true ∧ t.lines.buffer = [startRow g]

theorem closeWindow_window (s : State) : s.closeWindow.claim.window = none := by
  rw [closeWindow_eq, startFetch_eq]
  rfl

theorem closeWindow_grants (s : State) : s.closeWindow.claim.grants = s.claim.grants := by
  rw [closeWindow_eq, startFetch_eq]
  rfl

theorem closeWindow_roundEnds (s : State) : s.RoundEnds s.closeWindow := by
  have hwindow := closeWindow_window s
  have hkept := startFetch_eq s.windowClosed
  rw [closeWindow_eq] at hwindow ⊢
  constructor
  case goesOn => exact fun h => absurd hwindow h
  case closed =>
    rw [hkept]
    exact fun _ => ⟨rfl, rfl, rfl⟩
  case idle =>
    intro _ h
    rw [startFetch_idle (s := s.windowClosed) h]
    exact ⟨rfl, rfl⟩
  case fetches =>
    intro _ g rest hown hgrants
    rw [startFetch_lines (s := s.windowClosed) hown hgrants]
    exact ⟨rfl, rfl⟩
  all_goals rw [hkept]; rfl

/-- A window that goes on to its next round. -/
theorem nextRound_roundEnds (s : State) (r : Nat) :
    s.RoundEnds { s with claim := { s.claim with window := some r } } := by
  constructor
  case goesOn => exact fun _ => ⟨rfl, rfl⟩
  case closed => exact nofun
  case idle => exact nofun
  case fetches => exact nofun
  all_goals rfl

/-- The record of a round adds its entry to the grant list, and touches nothing else. -/
theorem State.RoundEnds.recorded {s t : State} {r : Nat} {word : Lines} (h : (s.recordGrant r word).RoundEnds t) :
    s.RoundEnds t := { h with }

/-- A driven round ends on the comparison of its bid. -/
theorem drivenRound_roundEnds (s : State) (r : Nat) (word : Lines) (stayed : Bool) :
    (s.compareBid r word stayed (s.pairGranted (claimStation word) (claimObject word))).RoundEnds
      (s.drivenRound r word stayed) := by
  cases hrep : s.pairGranted (claimStation word) (claimObject word) with
  | true =>
    rw [drivenRound_repeated hrep]
    exact closeWindow_roundEnds _
  | false =>
    rw [drivenRound_new hrep]
    split
    · exact (closeWindow_roundEnds _).recorded
    · exact (nextRound_roundEnds _ _).recorded

/-- A round that repeats a pair leaves the grant list, and closes the window (R73). -/
theorem drivenRound_window_repeated {s : State} {r : Nat} {word : Lines} {stayed : Bool}
    (h : s.pairGranted (claimStation word) (claimObject word) = true) :
    (s.drivenRound r word stayed).claim.grants = s.claim.grants ∧ (s.drivenRound r word stayed).claim.window = none := by
  rw [drivenRound_repeated h]
  exact ⟨(closeWindow_grants _).trans (compareBid_bidFrame s r word stayed true).grants, closeWindow_window _⟩

/-- Any other is recorded, and round 15 closes the window (R72, R76). -/
theorem drivenRound_window_new {s : State} {r : Nat} {word : Lines} {stayed : Bool}
    (h : s.pairGranted (claimStation word) (claimObject word) = false) :
    (s.drivenRound r word stayed).claim.grants =
      s.claim.grants ++ [⟨r, claimStation word, claimObject word, claimKey word / 8⟩] ∧
    (s.drivenRound r word stayed).claim.window = if r < 15 then some (r + 1) else none := by
  have hgrants := (compareBid_bidFrame s r word stayed false).grants
  have hrecorded : ((s.compareBid r word stayed false).recordGrant r word).claim.grants =
      s.claim.grants ++ [⟨r, claimStation word, claimObject word, claimKey word / 8⟩] := by rw [← hgrants]; rfl
  rw [drivenRound_new h]
  by_cases hr : r < 15
  · rw [if_neg (by simp [slotCount]; omega), if_pos hr]
    exact ⟨hrecorded, rfl⟩
  · rw [if_pos (by simp [slotCount]; omega), if_neg hr]
    exact ⟨(closeWindow_grants _).trans hrecorded, closeWindow_window _⟩

theorem pairGranted_iff (s : State) (station object : Nat) :
    s.pairGranted station object = true ↔ ∃ g ∈ s.claim.grants, g.station = station ∧ g.object = object := by
  simp only [State.pairGranted, List.any_eq_true, Bool.and_eq_true, beq_iff_eq]

/-! ### The round as it is driven (R68, R70) -/

/-- The station at the end of a round that it has driven, before it reads it (R69, R70). -/
def State.roundDriven (s : State) (r : Nat) : State := (s.reach (roundEnd r)).drive (s.bidWord.getD released)

theorem roundDriven_eq (s : State) (r : Nat) :
    s.roundDriven r = { s with
      link := { (s.reach (roundEnd r)).link with ldata := s.bidWord.getD released, ldataJoin := released }
      output := (s.reach (roundEnd r)).output } := by
  unfold State.roundDriven State.reach
  split <;> rfl

/-- A round that is not blank is driven, read and compared. -/
theorem exec_drivenRound {s : State} {r : Nat} {bids : List Lines} {held : Carried} (hp : s.resetPin = false)
    (hw : s.claim.window = some r) (hline : s.link.pixelTime < s.geometry.linePixels)
    (h : isBlank ((s.settledRound bids held).bus held.reading) = false) :
    exec (.claimRound bids held) s = .next ((s.roundDriven r).drivenRound r
      ((s.settledRound bids held).bus held.reading) (s.settledRound bids held).own.isSome) := by
  rw [exec_claimRound hp hw hline, State.endRound, reach_settledRound, reach_bidWord]
  exact congrArg Host.Outcome.next (if_neg (Bool.eq_false_iff.1 h))

/-- Driving a round takes the position to its end, and touches nothing else but the lines and the video output. -/
theorem roundDriven_kept (s : State) (r : Nat) :
    let t := s.roundDriven r
    t.member = s.member ∧ t.claim = s.claim ∧ t.lines = s.lines ∧ t.port = s.port ∧ t.table = s.table ∧
      t.surface = s.surface ∧ t.engine = s.engine ∧ t.picks = s.picks ∧ t.collisions = s.collisions ∧
      t.link.ldata = s.bidWord.getD released ∧ t.link.pixelTime = max (10 + 3 * r) s.link.pixelTime ∧
      t.link.frameNumber = s.link.frameNumber ∧ t.link.lineCounter = s.link.lineCounter ∧ t.link.synced = s.link.synced := by
  obtain ⟨-, -, -, -, -, -, -, -, -, -, -, -, -, -, -, hcounter, hframe, hsynced, -⟩ := reach_frame s (roundEnd r)
  rw [roundDriven_eq]
  exact ⟨rfl, rfl, rfl, rfl, rfl, rfl, rfl, rfl, rfl, rfl, reach_pixelTime s (roundEnd r), hframe, hcounter, hsynced⟩

/-- What is read and what it is compared with are those of the station before the round's pixel times passed. -/
theorem roundDriven_reads (s : State) (r : Nat) :
    (s.roundDriven r).bidder = s.bidder ∧ (∀ c, (s.roundDriven r).keyFor c = s.keyFor c) ∧
    (∀ word c, (s.roundDriven r).readsOwn word c = s.readsOwn word c) ∧
    ∀ station object, (s.roundDriven r).pairGranted station object = s.pairGranted station object := by
  obtain ⟨-, -, -, -, -, -, -, -, -, -, -, hframe, -⟩ := roundDriven_kept s r
  refine ⟨?_, fun c => ?_, fun word c => ?_, fun station object => ?_⟩
  · rw [roundDriven_eq]
    rfl
  · rw [State.keyFor, hframe, roundDriven_eq]
    rfl
  · rw [roundDriven_eq]
    rfl
  · rw [roundDriven_eq]
    rfl

/-- The station at the end of a driven round, once it has compared what it read with its bid. -/
def State.roundCompared (s : State) (r : Nat) (word : Lines) (stayed : Bool) : State :=
  (s.roundDriven r).compareBid r word stayed (s.pairGranted (claimStation word) (claimObject word))

/-- The driven round ends on that comparison. -/
theorem roundCompared_roundEnds (s : State) (r : Nat) (word : Lines) (stayed : Bool) :
    (s.roundCompared r word stayed).RoundEnds ((s.roundDriven r).drivenRound r word stayed) := by
  obtain ⟨-, -, -, hpair⟩ := roundDriven_reads s r
  rw [State.roundCompared, ← hpair]
  exact drivenRound_roundEnds (s.roundDriven r) r word stayed

section
variable {s : State} {c : Candidate} {rest : List Candidate} {word : Lines} {stayed : Bool}

theorem roundCompared_won (hown : s.member.own = .member) (hlist : s.claim.candidates = c :: rest)
    (hread : s.readsOwn word c = true) (hstayed : stayed = true)
    (hnew : ¬s.pairGranted (claimStation word) (claimObject word) = true) (r : Nat) :
    s.roundCompared r word stayed = (s.roundDriven r).grantHead r c := by
  obtain ⟨hbidder, -, hreads, -⟩ := roundDriven_reads s r
  exact compareBid_won (hbidder.trans (bidder_head hown hlist)) ((hreads word c).trans hread) hstayed
    (Bool.eq_false_iff.2 hnew) r

theorem roundCompared_mismatch (hown : s.member.own = .member) (hlist : s.claim.candidates = c :: rest)
    (hread : ¬s.readsOwn word c = true) (hkey : claimKey word = s.keyFor c) (r : Nat) :
    s.roundCompared r word stayed = (s.roundDriven r).changeState .conflict := by
  obtain ⟨hbidder, hkeyFor, hreads, -⟩ := roundDriven_reads s r
  exact compareBid_mismatch (hbidder.trans (bidder_head hown hlist)) (by rwa [hreads]) (hkey.trans (hkeyFor c).symm) r

/-- Without a bid, and where the bidder neither won nor read its own key with another claim, nothing changes. -/
theorem roundCompared_quiet (h : s.member.own ≠ .member ∨ s.claim.candidates = [] ∨
      ∃ c rest, s.claim.candidates = c :: rest ∧
        ((s.readsOwn word c = true ∧ (stayed = false ∨ s.pairGranted (claimStation word) (claimObject word) = true)) ∨
          (¬s.readsOwn word c = true ∧ claimKey word ≠ s.keyFor c))) (r : Nat) :
    s.roundCompared r word stayed = s.roundDriven r := by
  obtain ⟨hbidder, hkeyFor, hreads, -⟩ := roundDriven_reads s r
  by_cases hnone : s.member.own ≠ .member ∨ s.claim.candidates = []
  · exact compareBid_none (hbidder.trans (bidder_none hnone)) ..
  · obtain ⟨hm, hlist⟩ := not_or.1 hnone
    obtain ⟨c, rest, hhead, ⟨hread, hlost⟩ | ⟨hread, hkey⟩⟩ := (h.resolve_left hm).resolve_left hlist
    all_goals have hbids := hbidder.trans (bidder_head (not_not.1 hm) hhead)
    · exact compareBid_notWon hbids ((hreads word c).trans hread) hlost r
    · exact compareBid_lost hbids (by rwa [hreads]) (by rwa [hkeyFor]) r

/-- What a bidder drove stands on its lines unless it read its own key with another claim (R68, R75). -/
theorem roundCompared_ldata (hown : s.member.own = .member) (hlist : s.claim.candidates = c :: rest)
    (h : s.readsOwn word c = true ∨ claimKey word ≠ s.keyFor c) (r : Nat) :
    (s.roundCompared r word stayed).link.ldata = claimWord (s.keyFor c) s.straps.station.toNat c.object := by
  have hdriven : (s.roundDriven r).link.ldata = claimWord (s.keyFor c) s.straps.station.toNat c.object :=
    congrArg (·.getD released) (bidWord_head hown hlist)
  by_cases hread : s.readsOwn word c = true
  · by_cases hwon : stayed = true ∧ ¬s.pairGranted (claimStation word) (claimObject word) = true
    · rw [roundCompared_won hown hlist hread hwon.1 hwon.2]
      exact hdriven
    · rw [not_and_or, not_not, Bool.not_eq_true] at hwon
      rw [roundCompared_quiet (.inr (.inr ⟨c, rest, hlist, .inl ⟨hread, hwon⟩⟩)), hdriven]
  · rw [roundCompared_quiet (.inr (.inr ⟨c, rest, hlist, .inr ⟨hread, h.resolve_left hread⟩⟩)), hdriven]

end

/-- Settles O37: the comparison with the bid, and the end of the round on it. -/
theorem drivenRoundIsRecordedAndCompared : Obligations.DrivenRoundIsRecordedAndCompared := by
  unfold Obligations.DrivenRoundIsRecordedAndCompared
  intro s r bids held hp hw hline settled word hblank repeated own
  have hacts := exec_drivenRound (held := held) hp hw hline hblank
  have hrepeated : s.pairGranted (claimStation word) (claimObject word) = true ↔ repeated := pairGranted_iff ..
  have hown : ∀ c, s.readsOwn word c = true ↔ own c := readsOwn_iff s word
  obtain ⟨-, -, -, hpair⟩ := roundDriven_reads s r
  obtain ⟨hmember, hclaim, hlines, hport, htable, hsurface, hengine, hpicks, hcollisions, hldata, htime, hnumber, hcounter,
    hsynced⟩ := roundDriven_kept s r
  have hends := roundCompared_roundEnds s r word settled.own.isSome
  have hframe : (s.roundDriven r).BidFrame (s.roundCompared r word settled.own.isSome) := compareBid_bidFrame ..
  have hchange := compareBid_own (s.roundDriven r) r word settled.own.isSome
    (s.pairGranted (claimStation word) (claimObject word))
  have hquiet := fun h => roundCompared_quiet (s := s) (word := word) (stayed := settled.own.isSome) h r
  simp only [hown, hrepeated] at hquiet
  refine ⟨_, hacts, fun h => ?_, fun h => ?_, fun c rest hm hlist hc hstayed hnew => ?_, fun c rest hm hlist hc hkey => ?_,
    fun h => ?_, hends.link ▸ hframe.pixelTime.trans htime, hends.link ▸ hframe.frameNumber.trans hnumber,
    hends.link ▸ hframe.lineCounter.trans hcounter, hends.link ▸ hframe.synced.trans hsynced, fun h => ?_, fun h => ?_,
    fun h => ?_, fun h => ?_, fun h => ?_, fun c rest hm hlist h => ?_, ?_⟩
  · obtain ⟨hgrants, hwindow⟩ := drivenRound_window_repeated (s := s.roundDriven r) (r := r) (stayed := settled.own.isSome)
      ((hpair ..).trans (hrepeated.2 h))
    exact ⟨hgrants.trans (congrArg ClaimUnit.grants hclaim), hwindow⟩
  · obtain ⟨hgrants, hwindow⟩ := drivenRound_window_new (s := s.roundDriven r) (r := r) (stayed := settled.own.isSome)
      ((hpair ..).trans (Bool.eq_false_iff.2 (mt hrepeated.1 h)))
    exact ⟨by rw [← hclaim]; exact hgrants, hwindow⟩
  · rw [roundCompared_won hm hlist ((hown c).2 hc) hstayed (mt hrepeated.1 hnew)] at hends
    refine ⟨hends.candidates.trans ?_, hends.ownGrants.trans ?_, (congrArg Membership.own (hends.member.trans hmember)).trans hm⟩
    · exact (congrArg (fun l : ClaimUnit => l.candidates.tail) hclaim).trans (by rw [hlist, List.tail_cons])
    · exact congrArg (fun l : ClaimUnit => l.ownGrants ++ _) hclaim
  · rw [roundCompared_mismatch hm hlist (mt (hown c).1 hc) hkey] at hends
    obtain ⟨-, -, -, -, hkept, -⟩ := changeState_frame (s.roundDriven r) .conflict
    have henters := changeState_enters (s.roundDriven r) .conflict
    obtain ⟨hconflict, -⟩ := henters.fields
    refine ⟨hends.candidates.trans (congrArg ClaimUnit.candidates (hkept.trans hclaim)),
      hends.ownGrants.trans (congrArg ClaimUnit.ownGrants (hkept.trans hclaim)),
      (congrArg Membership.own hends.member).trans hconflict, ?_, ?_, ?_⟩
    · rw [hends.link, changeState_link_silent _ _ rfl]
    · rw [hends.member, henters.member, hmember]
    · rw [hends.port, changeState_port, hport, raise_state]
  · rw [hends.member, hends.port]
    rw [hends.member] at h
    obtain ⟨hsame, hquietPort⟩ | ⟨hconflict, hm, -⟩ := hchange
    · exact ⟨congrArg Port.events (hquietPort.trans hport), hsame.trans hmember⟩
    · exact nomatch hconflict.symm.trans (h.trans ((congrArg Membership.own hmember).symm.trans hm))
  · rw [hquiet h] at hends
    exact ⟨hends.candidates.trans (congrArg ClaimUnit.candidates hclaim),
      hends.ownGrants.trans (congrArg ClaimUnit.ownGrants hclaim), hends.member.trans hmember⟩
  · obtain ⟨hcurrent, -⟩ := hends.closed h
    rw [hcurrent, hends.candidates, hframe.current, hframe.lineCounter, hcounter, hclaim]
  · obtain ⟨hcurrent, hkept⟩ := hends.goesOn h
    exact ⟨hcurrent.trans (hframe.current.trans (congrArg ClaimUnit.current hclaim)), hkept.trans (hframe.lines.trans hlines)⟩
  · obtain ⟨-, hcolumn, hreport⟩ := hends.closed h
    have hidle := hends.idle h
    rw [hframe.lines, hlines] at hreport hidle
    rw [hends.member, hends.ownGrants]
    exact ⟨hcolumn, hreport, hidle, hends.fetches h⟩
  · rw [hquiet (h.imp_right .inl)] at hends
    rw [hends.link, hldata, bidWord_none h]
    rfl
  · rw [hends.link]
    exact roundCompared_ldata hm hlist (h.imp_left (hown c).2) r
  · exact ⟨hends.last.trans (hframe.last.trans (congrArg ClaimUnit.last hclaim)), hends.table.trans (hframe.table.trans htable),
      hends.surface.trans (hframe.surface.trans hsurface), hends.engine.trans (hframe.engine.trans hengine),
      hends.picks.trans (hframe.picks.trans hpicks), hends.collisions.trans (hframe.collisions.trans hcollisions),
      (congrArg Port.responses hends.port).trans (hframe.responses.trans (congrArg Port.responses hport))⟩

end Sys2Proof.Machine
end

section
/-! SUPPORT. The own state along every happening: what keeps it, and the causes of each change (Table 3-2). -/

namespace Sys2Proof.Machine

/-! ### The link's own happenings -/

theorem driveMark_own (s : State) (kind : MarkKind) : (s.driveMark kind).member.own = s.member.own := leadingEdge_own s

theorem timerRunsOut_own (s : State) : s.timerRunsOut.member.own = s.member.own := by
  unfold State.timerRunsOut
  split
  · rfl
  · exact driveMark_own _ _

theorem frameWordEnds_own (s : State) (others : Lines) : (s.frameWordEnds others).member.own = s.member.own := by
  unfold State.frameWordEnds
  split
  · rfl
  · split
    · rfl
    · rw [readFrameWord_eq]
      exact (congrArg Membership.own (reach_member s _) :)

/-- The silence timeout founds the link from LISTEN, with the silence count at 2 × T, and leaves every other state (R54). -/
theorem silenceReached_own (s : State) :
    s.silenceReached.member.own = s.member.own ∨
    (s.silenceReached.member.own = .founding ∧ s.member.own = .listen ∧
      2 * s.geometry.totalLines ≤ s.silenceReached.link.silenceCount) := by
  by_cases hown : s.member.own = .listen
  · obtain ⟨-, -, -, -, -, hmember⟩ := silenceReached_listen hown
    exact .inr ⟨(congrArg Membership.own hmember :), hown, (silenceReached_link s).2.ge⟩
  · obtain ⟨-, -, hmember⟩ := silenceReached_other hown
    exact .inl (congrArg Membership.own hmember :)

/-! ### Marks (R55, R58, R64) -/

/-- A mark released shows on LMARK no more. -/
theorem releaseMark_lmark (s : State) : s.releaseMark.link.lmark = none := by
  cases h : s.link.lmark with
  | none => rw [releaseMark_none h, h]
  | some kind => rw [releaseMark_some h]

/-- After a leading edge, only an assertion that stood before it is the station's own. -/
theorem leadingEdge_ownFrame {s : State}
    (h : s.leadingEdge.link.lmark = some .frame ∨ s.leadingEdge.link.frameDriven = true) :
    s.link.edgeSeen = true ∧ (s.link.lmark = some .frame ∨ s.link.frameDriven = true) := by
  cases he : s.link.edgeSeen with
  | true =>
    rw [leadingEdge_seen s he] at h
    exact ⟨rfl, h⟩
  | false =>
    rw [leadingEdge_new he, releaseMark_lmark] at h
    exact h.elim nofun nofun

theorem leadingEdge_synced (s : State) : s.leadingEdge.link.synced = s.link.synced := by
  cases he : s.link.edgeSeen with
  | true => rw [leadingEdge_seen s he]
  | false =>
    obtain ⟨hsynced, -⟩ := releaseMark_clocks s
    rw [leadingEdge_new he]
    exact hsynced

/-- A leading edge leaves the causes of a change as they were. -/
theorem leadingEdge_causes (s : State) :
    (s.leadingEdge.Detaches ↔ s.Detaches) ∧ (s.leadingEdge.Admits ↔ s.Admits) ∧
    (s.leadingEdge.ThirdWait s.leadingEdge.link.synced ↔ s.ThirdWait s.link.synced) := by
  rw [leadingEdge_synced]
  unfold State.Detaches State.Admits State.ThirdWait
  rw [leadingEdge_member]
  exact ⟨Iff.rfl, Iff.rfl, Iff.rfl⟩

/-- A line mark at its decision point changes the own state of a member whose detach is pending only (R64). -/
theorem takeLineMark_own (s : State) :
    (s.reach decisionPoint).takeLineMark.member.own = s.member.own ∨
    (s.Detaches ∧ (s.reach decisionPoint).takeLineMark.member.own = .detached) := by
  have hopens : (s.reach decisionPoint).takeLineMark.member.own = s.lineMarked.member.own := by
    cases hs : s.link.synced with
    | true =>
      obtain ⟨-, hown, -⟩ := advanceLine_frame s.lineMarked
      rw [takeLineMark_synced hs, hown]
    | false => rw [takeLineMark_unsynced hs]
  rw [hopens]
  by_cases h : s.member.detachPending = true ∧ s.member.own = .member
  · exact .inr ⟨h, (congrArg Membership.own (lineMarked_detaching h).1 :)⟩
  · exact .inl (congrArg Membership.own (lineMarked_staying h).1)

/-- A frame mark at its decision point changes it for one of three causes (R55, R58, R64). -/
theorem takeFrameMark_own (s : State) :
    (s.reach decisionPoint).takeFrameMark.member.own = s.member.own ∨
    (s.Detaches ∧ (s.reach decisionPoint).takeFrameMark.member.own = .detached) ∨
    (s.ThirdWait s.link.synced ∧ (s.reach decisionPoint).takeFrameMark.member.own = .refused) ∨
    (s.Admits ∧ (s.reach decisionPoint).takeFrameMark.member.own = .member) := by
  rw [takeFrameMark_whole]
  obtain ⟨hthird, h⟩ | ⟨-, hd, h⟩ | ⟨-, ha, h⟩ | ⟨-, -, -, hmember, -⟩ := frameCounted_cases s
  · exact .inr (.inr (.inl ⟨hthird, h.fields.1⟩))
  · exact .inr (.inl ⟨hd, h.fields.1⟩)
  · exact .inr (.inr (.inr ⟨ha, h.fields.1⟩))
  · exact .inl (congrArg Membership.own hmember :)

/-- The mark a row takes is a frame mark: the row is one, or the own frame assertion makes a line mark row one (R24, R31; log
entry 5). -/
def State.TakesFrame (s : State) (seen : MarkKind) : Prop :=
  seen = .frame ∨ (s.link.edgeSeen = true ∧ (s.link.lmark = some .frame ∨ s.link.frameDriven = true))

/-- A mark is a frame mark or a line mark at the decision point of its leading edge (R24). -/
theorem takeMark_cases (s : State) (seen : MarkKind) :
    (s.TakesFrame seen ∧ s.takeMark seen = (s.leadingEdge.reach decisionPoint).takeFrameMark) ∨
    s.takeMark seen = (s.leadingEdge.reach decisionPoint).takeLineMark := by
  have he := leadingEdge_edgeSeen s
  rw [← takeMark_leadingEdge]
  by_cases hown : s.leadingEdge.link.lmark = some .frame ∨ s.leadingEdge.link.frameDriven = true
  · exact .inl ⟨.inr (leadingEdge_ownFrame hown), takeMark_own_frame he hown⟩
  · cases seen with
    | frame => exact .inl ⟨.inl rfl, takeMark_frame he⟩
    | line =>
      obtain ⟨hl, hd⟩ := not_or.1 hown
      exact .inr (takeMark_line he hl (Bool.eq_false_iff.2 hd))

/-- What a mark does to the own state, each change with its cause. -/
theorem takeMark_own (s : State) (seen : MarkKind) :
    (s.takeMark seen).member.own = s.member.own ∨
    (s.Detaches ∧ (s.takeMark seen).member.own = .detached) ∨
    (s.TakesFrame seen ∧ ((s.ThirdWait s.link.synced ∧ (s.takeMark seen).member.own = .refused) ∨
      (s.Admits ∧ (s.takeMark seen).member.own = .member))) := by
  obtain ⟨hdetaches, hadmits, hthird⟩ := leadingEdge_causes s
  obtain ⟨hframe, heq⟩ | heq := takeMark_cases s seen <;> rw [heq]
  · have hcases := takeFrameMark_own s.leadingEdge
    rw [hdetaches, hadmits, hthird, leadingEdge_own] at hcases
    exact hcases.imp_right (Or.imp_right fun h => ⟨hframe, h⟩)
  · have hcases := takeLineMark_own s.leadingEdge
    rw [hdetaches, leadingEdge_own] at hcases
    exact hcases.imp_right .inl

/-! ### The announce window (R47, R53, R61) -/

/-- The join decision selects one of three states (R53). -/
theorem joinDecision_cases (s : State) (heard : List Nat) :
    s.joinDecision heard = .joining ∨ s.joinDecision heard = .conflict ∨ s.joinDecision heard = .refused := by
  unfold State.joinDecision
  split
  · exact .inr (.inl rfl)
  · split
    · exact .inr (.inr rfl)
    · split
      · exact .inr (.inr rfl)
      · exact .inl rfl

/-- A window that is complete decides in LISTEN and in MEMBER only: the join decision at the end of a second window listened to,
and the agreement test. -/
theorem completeWindow_own (s : State) (w : AnnounceWindow) :
    (s.completeWindow w).member.own = s.member.own ∨
    (s.member.own = .listen ∧ w.listening = true ∧ 1 ≤ s.member.listenCount ∧
      ((s.completeWindow w).member.own = .joining ∨ (s.completeWindow w).member.own = .conflict ∨
        (s.completeWindow w).member.own = .refused)) ∨
    (s.member.own = .member ∧ (s.completeWindow w).member.own = .refused) := by
  by_cases hlisten : s.member.own = .listen
  · cases hw : w.listening with
    | false =>
      rw [completeWindow_notListened hlisten hw]
      exact .inl rfl
    | true =>
      obtain hfirst | hsecond := Nat.eq_zero_or_pos s.member.listenCount
      · rw [completeWindow_first hlisten hw hfirst]
        exact .inl rfl
      · refine .inr (.inl ⟨hlisten, rfl, hsecond, ?_⟩)
        rw [completeWindow_second hlisten hw hsecond, (changeState_enters _ _).fields.1]
        exact joinDecision_cases _ _
  · by_cases hmember : s.member.own = .member
    · rw [completeWindow_member hmember]
      obtain ⟨hdecided, -⟩ := agreementTest_decides (s := s.windowEnded) hmember
      rw [hdecided]
      split
      · exact .inr (.inr ⟨hmember, rfl⟩)
      · exact .inl hmember.symm
    · rw [completeWindow_other hlisten hmember]
      exact .inl rfl

/-- So does the next place, once it is past place 7. -/
theorem nextPlace_own (s : State) (w : AnnounceWindow) :
    (s.nextPlace w).member.own = s.member.own ∨ (8 ≤ w.place ∧
    ((s.member.own = .listen ∧ w.listening = true ∧ 1 ≤ s.member.listenCount ∧
      ((s.nextPlace w).member.own = .joining ∨ (s.nextPlace w).member.own = .conflict ∨
        (s.nextPlace w).member.own = .refused)) ∨
    (s.member.own = .member ∧ (s.nextPlace w).member.own = .refused))) := by
  unfold State.nextPlace
  split
  · exact .inl rfl
  · rename_i h8
    exact (completeWindow_own s w).imp_right fun h => ⟨Nat.le_of_not_lt h8, h⟩

/-- What a window decides once place `w.place` has ended, from the own state that stood before it. -/
def State.WindowDecides (s : State) (w : AnnounceWindow) (new : OwnState) : Prop :=
  7 ≤ w.place ∧
    ((s.member.own = .listen ∧ w.listening = true ∧ 1 ≤ s.member.listenCount ∧
      (new = .joining ∨ new = .conflict ∨ new = .refused)) ∨
    (s.member.own = .member ∧ new = .refused))

/-- The own place sends a driving station to CONFLICT. -/
def State.PlaceConflicts (s : State) (w : AnnounceWindow) (new : OwnState) : Prop :=
  w.place = s.stationNumber ∧ s.member.own.drives = true ∧ new = .conflict

/-- A place the station does not drive changes the own state by the end of the window only. -/
theorem endPlace_other_changes {s : State} {w : AnnounceWindow} (hd : s.drivesPlace w.place = false)
    (ha : s.member.announce = some w) (others : Lines) :
    (s.endPlace w others).member.own = s.member.own ∨ s.WindowDecides w (s.endPlace w others).member.own := by
  rw [endPlace_other hd ha, takePlace_eq]
  exact (nextPlace_own _ _).imp_right fun h => ⟨Nat.le_of_succ_le_succ h.1, h.2⟩

/-- The own place changes it by the readback, or by the agreement test of a member at the end of the window. -/
theorem endPlace_own_changes {s : State} {w : AnnounceWindow} (hd : s.member.own.drives = true)
    (hw : w.place = s.stationNumber) (ha : s.member.announce = some w) (others : Lines) :
    (s.endPlace w others).member.own = s.member.own ∨ s.WindowDecides w (s.endPlace w others).member.own ∨
      s.PlaceConflicts w (s.endPlace w others).member.own := by
  have htaken : (s.ownPlaceTaken others).member.announce = some w ∧ (s.ownPlaceTaken others).member.own = s.member.own := by
    rw [State.ownPlaceTaken, takePlace_eq]
    exact ⟨ha, rfl⟩
  obtain ⟨listening, hheld⟩ := readBackPlace_window htaken.1 s.announce (others &&& s.announce)
  have hnext := nextPlace_own ((s.ownPlaceTaken others).readBackPlace s.announce (others &&& s.announce))
    (({ w with listening := listening } : AnnounceWindow).after (placeHeard (others &&& s.announce)))
  rw [endPlace_own hd hw]
  simp only [hheld, Option.getD_some]
  by_cases hread : others &&& s.announce = s.announce
  · have hown : ((s.ownPlaceTaken others).readBackPlace s.announce (others &&& s.announce)).member.own = s.member.own := by
      rw [readBackPlace_clean hread, ← htaken.2]
    rw [hown] at hnext
    obtain hkept | ⟨h8, ⟨hlisten, -⟩ | ⟨hmember, hrefused⟩⟩ := hnext
    · exact .inl hkept
    · exact absurd hlisten (drives_ne_listen hd)
    · exact .inr (.inl ⟨Nat.le_of_succ_le_succ h8, .inr ⟨hmember, hrefused⟩⟩)
  · have hown : ((s.ownPlaceTaken others).readBackPlace s.announce (others &&& s.announce)).member.own = .conflict := by
      rw [readBackPlace_differs hread, (changeState_enters _ _).fields.1]
    rw [hown] at hnext
    obtain hkept | ⟨-, ⟨hlisten, -⟩ | ⟨hmember, -⟩⟩ := hnext
    · exact .inr (.inr ⟨hw, hd, hkept⟩)
    · exact nomatch hlisten
    · exact nomatch hmember

/-- The happening of a place, with its window. -/
theorem announcePlaceEnds_changes (s : State) (others : Lines) :
    (s.announcePlaceEnds others).member.own = s.member.own ∨
    ∃ w, s.member.announce = some w ∧ w.wordRead = true ∧
      (s.WindowDecides w (s.announcePlaceEnds others).member.own ∨
        s.PlaceConflicts w (s.announcePlaceEnds others).member.own) := by
  unfold State.announcePlaceEnds
  split
  · exact .inl rfl
  · rename_i w hw
    split
    · rename_i hread
      obtain ⟨-, hstraps, -, -, -, hmember, -⟩ := reach_frame s (placeEnd w.place)
      have ha : (s.reach (placeEnd w.place)).member.announce = some w := by rw [hmember, hw]
      have hdecides : ∀ {new}, (s.reach (placeEnd w.place)).WindowDecides w new → s.WindowDecides w new := by
        unfold State.WindowDecides
        rw [hmember]
        exact id
      have hconflicts : ∀ {new}, (s.reach (placeEnd w.place)).PlaceConflicts w new → s.PlaceConflicts w new := by
        unfold State.PlaceConflicts State.stationNumber
        rw [hmember, hstraps]
        exact id
      rw [← hmember]
      cases hplace : (s.reach (placeEnd w.place)).drivesPlace w.place with
      | false =>
        exact (endPlace_other_changes hplace ha others).imp_right fun h => ⟨w, ha, hread, .inl (hdecides h)⟩
      | true =>
        obtain ⟨hd, hn⟩ := Bool.and_eq_true_iff.1 hplace
        exact (endPlace_own_changes hd (beq_iff_eq.1 hn) ha others).imp_right fun h =>
          ⟨w, ha, hread, h.imp hdecides hconflicts⟩
    · exact .inl rfl

/-! ### The claim window (R75) -/

theorem closeWindow_own (s : State) : s.closeWindow.member.own = s.member.own :=
  congrArg Membership.own (closeWindow_roundEnds s).member

/-- A round sends a member that bids to CONFLICT, or leaves the own state (R75). -/
theorem claimRoundEnds_own (s : State) (bids : List Lines) (held : Carried) :
    (s.claimRoundEnds bids held).member.own = s.member.own ∨
    ((s.claimRoundEnds bids held).member.own = .conflict ∧ (∃ r, s.claim.window = some r) ∧ s.member.own = .member ∧
      s.claim.candidates ≠ []) := by
  unfold State.claimRoundEnds
  split
  · exact .inl rfl
  · rename_i r hr
    have hdriven : (s.reach (roundEnd r)).drive ((s.reach (roundEnd r)).bidWord.getD released) = s.roundDriven r := by
      rw [reach_bidWord]
      rfl
    obtain ⟨hmember, hclaim, -⟩ := roundDriven_kept s r
    unfold State.endRound
    simp only [hdriven]
    rw [← hmember, ← hclaim]
    split
    · exact .inl (closeWindow_own _)
    · rw [(drivenRound_roundEnds _ _ _ _).member]
      exact (compareBid_own ..).imp (fun h => congrArg Membership.own h.1) fun ⟨hconflict, hm, hlist⟩ =>
        ⟨hconflict, ⟨r, (congrArg ClaimUnit.window hclaim).trans hr⟩, hm, hlist⟩

/-! ### DETACH and REJOIN (R63, R65) -/

theorem detach_own (s : State) (e : Entry) :
    (s.detach e).member.own = s.member.own ∨
    ((s.detach e).member.own = .detached ∧ s.member.own ≠ .member ∧ s.member.own ≠ .detached) := by
  unfold State.detach
  split
  · exact .inl rfl
  · exact .inl rfl
  all_goals
    rename_i hown
    exact .inr ⟨(changeState_enters s .detached).fields.1, by rw [hown]; nofun, by rw [hown]; nofun⟩

/-- A REJOIN that is taken enters LISTEN, and on a silent link founds at once (R41, R54, R65). -/
theorem rejoin_own (s : State) (e : Entry) :
    (s.rejoin e).member.own = s.member.own ∨
    ((s.member.own = .detached ∨ s.member.own = .conflict ∨ s.member.own = .refused) ∧
      ((s.rejoin e).member.own = .listen ∨
        ((s.rejoin e).member.own = .founding ∧ 2 * s.geometry.totalLines ≤ (s.rejoin e).link.silenceCount))) := by
  have hlistens : (((s.changeState .listen).atSilenceLimit).answer e .ok []).member.own = .listen ∨
      ((((s.changeState .listen).atSilenceLimit).answer e .ok []).member.own = .founding ∧
        2 * s.geometry.totalLines ≤ (((s.changeState .listen).atSilenceLimit).answer e .ok []).link.silenceCount) := by
    obtain ⟨-, -, hsilence⟩ := listen_counts s
    rw [State.answer_member, State.answer_link, hsilence]
    obtain hbelow | hat := Nat.lt_or_ge s.link.silenceCount (2 * s.geometry.totalLines)
    · rw [listen_below hbelow]
      exact .inl (changeState_enters s .listen).fields.1
    · rw [listen_at hat]
      exact .inr ⟨(congrArg Membership.own (found_member _) :), hat⟩
  unfold State.rejoin
  split
  · exact .inr ⟨.inl ‹_›, hlistens⟩
  · exact .inr ⟨.inr (.inl ‹_›), hlistens⟩
  · exact .inr ⟨.inr (.inr ‹_›), hlistens⟩
  all_goals exact .inl rfl

end Sys2Proof.Machine
end

section
/-! SUPPORT. The own state over every happening (Table 3-2): the rows that leave it as it is, and the table itself. -/

namespace Sys2Proof.Machine

/-! ### The rows outside Table 3-2 -/

theorem happening_own {s t : State} {enabled : Bool} {f : State → State} (h : s.happening enabled f = .next t)
    (hf : (f s).member.own = s.member.own) : t.member.own = s.member.own := by
  obtain rfl | ⟨-, -, rfl⟩ := happening_cases h
  · rfl
  · exact hf

theorem accessing_own {s t : State} {enabled : Bool} {fault : Option Fault} {f : State → State}
    (h : s.accessing enabled fault f = .next t) (hf : (f s).member.own = s.member.own) : t.member.own = s.member.own := by
  obtain rfl | ⟨-, -, -, rfl⟩ := accessing_cases h
  · rfl
  · exact hf

theorem taking_own {s t : State} {row : Entry → Bool} {act : Entry → State → State} (h : s.taking row act = .next t)
    (hact : ∀ (u : State) (e : Entry), (act e u).member.own = u.member.own) : t.member.own = s.member.own := by
  obtain rfl | ⟨e, rest, -, -, rfl⟩ := taking_cases h
  · rfl
  · exact hact _ e

theorem queueUpdate_own (s : State) (e : Entry) (u : PendingEntry) : (s.queueUpdate e u).member.own = s.member.own := by
  unfold State.queueUpdate
  split <;> rfl

theorem fetchServed_own (s : State) : s.fetchServed.member.own = s.member.own := by
  unfold State.fetchServed
  split
  · dsimp only
    split
    · unfold State.nextRow
      split <;> rfl
    · rfl
  · rfl

theorem columnResolved_own (s : State) (rivals : List Lines) (held : Carried) (join : Lines) :
    (s.columnResolved rivals held join).member.own = s.member.own := by
  unfold State.columnResolved
  split
  · rfl
  · obtain ⟨-, -, -, hmember, -⟩ := (examined_offersTo s (s.reported _ rivals held join)).frame
    rw [reach_moved, resolveColumn_moved, State.moved_member, hmember]

/-- The rows by which Table 3-2 lets the own state change. -/
def changesOwn : Instr → Bool
  | .resetPinAsserted | .resetPinReleased _ _ _ | .restart _ | .commandFrameReceived _ _ => true
  | .detach | .rejoin => true
  | .lineMark | .frameMark | .silenceCountLimit | .announcePlace _ | .claimRound _ _ => true
  | _ => false

/-- Every other row leaves it as it is. -/
theorem exec_own_kept {c : Instr} {s t : State} (h : exec c s = .next t) (hc : changesOwn c = false) :
    t.member.own = s.member.own := by
  cases c with
  | resetPinAsserted | resetPinReleased | restart | commandFrameReceived | detach | rejoin | lineMark | frameMark
  | silenceCountLimit | announcePlace | claimRound => cases hc
  | ignoredTransaction kind count => exact happening_own (f := fun s => s.send _) h rfl
  | readTransaction count =>
    refine happening_own (f := fun s => s.readOut count) h ?_
    unfold State.readOut
    split
    · rfl
    · split <;> rfl
  | badFrameEntryTaken | unknownCodeTaken | badLengthEntryTaken => exact taking_own h fun _ _ => rfl
  | readShortfall | readMembers | readStatus | readEvents | flushPending => exact taking_own h fun _ _ => rfl
  | objectWriteNow => exact taking_own h fun u e => by unfold State.writeNow; split <;> rfl
  | objectWriteAtFrame =>
    refine taking_own h fun u e => ?_
    unfold State.writeAtFrame
    split
    · rfl
    · exact queueUpdate_own ..
  | objectMoveNow =>
    refine taking_own h fun u e => ?_
    unfold State.moveNow
    split
    · rfl
    · dsimp only
      split <;> rfl
  | objectMoveAtFrame =>
    refine taking_own h fun u e => ?_
    unfold State.moveAtFrame
    split
    · rfl
    · exact queueUpdate_own ..
  | objectRead => exact taking_own h fun u e => by unfold State.readObject; dsimp only; split <;> rfl
  | tintWrite => exact taking_own h fun u e => by unfold State.writeTint; dsimp only; split <;> rfl
  | paletteWrite => exact taking_own h fun u e => by unfold State.writePalette; dsimp only; split <;> rfl
  | surfaceWrite => exact taking_own h fun u e => by unfold State.surfaceWrite; dsimp only; split <;> rfl
  | surfaceRead => exact taking_own h fun u e => by unfold State.surfaceRead; dsimp only; split <;> rfl
  | portWriteAccessServed | portReadAccessServed => exact accessing_own h (congrArg LinkParts.own (portServed_linkParts s))
  | fill | copy | line | seek | plot | probe =>
    exact taking_own h fun u e => congrArg LinkParts.own (takeDraw_linkParts _ e u)
  | engineAccessServed => exact accessing_own h (congrArg LinkParts.own (engineServed_linkParts s))
  | drawAbort inService =>
    exact happening_own (f := fun s => s.drawAborted inService) h (congrArg LinkParts.own (drawAborted_linkParts s inService))
  | pickAt =>
    refine taking_own h fun u e => ?_
    unfold State.pickAt
    dsimp only
    split
    · rfl
    · split <;> rfl
  | readPicks => exact taking_own h fun u e => by unfold State.readPicks; split <;> rfl
  | readCollisions => exact taking_own h fun u e => by unfold State.readCollisions; dsimp only; split <;> rfl
  | lmarkLeadingEdge => exact happening_own h (leadingEdge_own s)
  | lineTimerRunsOut => exact happening_own h (timerRunsOut_own s)
  | frameWord others => exact happening_own (f := fun s => s.frameWordEnds others) h (frameWordEnds_own s others)
  | fetchAccessServed => exact accessing_own h (fetchServed_own s)
  | columnResolved rivals held join =>
    exact happening_own (f := fun s => s.columnResolved rivals held join) h (columnResolved_own s rivals held join)
  | picktrigEdge => exact happening_own h (congrArg LinkParts.own (pickEdge_linkParts s))

/-! ### The table -/

/-- A frame received leaves the own state, unless it is RESTART's (R164, R165). -/
theorem receiveFrame_own (s : State) (r : Received) (inService : Option Client) :
    (s.receiveFrame r inService).member.own = s.member.own ∨
    (r = .restart ∧ (s.receiveFrame r inService).member.own = .listen) := by
  cases r with
  | abort => exact .inl (congrArg LinkParts.own (drawAborted_linkParts s inService))
  | restart => exact .inr ⟨rfl, rfl⟩
  | entry e =>
    unfold State.receiveFrame State.offerEntry
    dsimp only
    split <;> exact .inl rfl

theorem drives_iff (own : OwnState) : own.drives = true ↔ own = .founding ∨ own = .joining ∨ own = .member := by
  cases own <;> decide

theorem thirdWait_iff (s : State) (wasSynced : Bool) : s.ThirdWait wasSynced ↔ wasSynced = true ∧ 2 ≤ s.member.windowWait ∧
    (s.member.own = .listen ∨ s.member.own = .founding ∨ s.member.own = .joining ∨ s.member.own = .member) := by
  rw [State.ThirdWait, waits_iff, and_assoc, and_comm (b := 2 ≤ s.member.windowWait)]

/-- A mark row changes nothing or takes a mark, and where the mark is a frame mark the row is one or the own frame assertion makes
it one (R24, R31). -/
theorem exec_mark {c : Instr} {s t : State} (h : exec c s = .next t) (hrow : c = .lineMark ∨ c = .frameMark) :
    t = s ∨ ∃ seen, t = s.takeMark seen ∧ (s.TakesFrame seen → c = .frameMark ∨ (c = .lineMark ∧ s.link.edgeSeen = true ∧
      (s.link.lmark = some .frame ∨ s.link.frameDriven = true))) := by
  obtain rfl | rfl := hrow
  · obtain hsame | ⟨-, -, hmark⟩ := happening_cases (f := fun s => s.takeMark .line) h
    · exact .inl hsame
    · exact .inr ⟨.line, hmark, fun hframe => .inr ⟨rfl, hframe.resolve_left nofun⟩⟩
  · obtain hsame | ⟨-, -, hmark⟩ := happening_cases (f := fun s => s.takeMark .frame) h
    · exact .inl hsame
    · exact .inr ⟨.frame, hmark, fun _ => .inl rfl⟩

/-- Settles O33: each row of the table by its own lemma, and every other by `exec_own_kept`. -/
theorem ownStateChangesAsTabulated : Obligations.OwnStateChangesAsTabulated := by
  unfold Obligations.OwnStateChangesAsTabulated
  intro c s t h frameMark windowEnds joinDecision
  by_cases hmark : c = .lineMark ∨ c = .frameMark
  · obtain rfl | ⟨seen, rfl, hframe⟩ := exec_mark h hmark
    · exact .inl rfl
    · obtain hkept | ⟨⟨hpending, hm⟩, hdetached⟩ | ⟨htakes, ⟨hthird, hrefused⟩ | ⟨hadmits, hmember⟩⟩ := takeMark_own s seen
      · exact .inl hkept
      · exact .inr (.inr (.inr (.inr (.inr (.inr (.inr ⟨hdetached, .inr ⟨hmark, hm, hpending⟩⟩))))))
      · exact .inr (.inr (.inr (.inr (.inr (.inr (.inl ⟨hrefused,
          .inr (.inr ⟨hframe htakes, (thirdWait_iff _ _).1 hthird⟩)⟩))))))
      · exact .inr (.inr (.inr (.inr (.inl ⟨hmember, hframe htakes, hadmits⟩))))
  cases c with
  | resetPinAsserted =>
    cases h
    exact .inr (.inl ⟨rfl, .inl rfl⟩)
  | resetPinReleased station preset video =>
    cases h
    exact .inr (.inl ⟨rfl, .inr (.inl ⟨station, preset, video, rfl⟩)⟩)
  | restart inService =>
    obtain rfl | ⟨-, -, -, rfl⟩ := accessing_cases (f := fun s => s.restarted inService) h
    · exact .inl rfl
    · exact .inr (.inl ⟨rfl, .inr (.inr (.inl ⟨inService, rfl⟩))⟩)
  | commandFrameReceived bytes inService =>
    obtain rfl | ⟨-, -, -, rfl⟩ := accessing_cases (f := fun s => (s.send _).receiveFrame (receive bytes) inService) h
    · exact .inl rfl
    · obtain hkept | ⟨hrestart, hlisten⟩ := receiveFrame_own (s.send _) (receive bytes) inService
      · exact .inl hkept
      · exact .inr (.inl ⟨hlisten, .inr (.inr (.inr (.inl ⟨bytes, inService, rfl, hrestart⟩)))⟩)
  | detach =>
    obtain rfl | ⟨e, rest, -, -, rfl⟩ := taking_cases h
    · exact .inl rfl
    · obtain hkept | ⟨hdetached, hm, hd⟩ := detach_own (s.without rest) e
      · exact .inl hkept
      · exact .inr (.inr (.inr (.inr (.inr (.inr (.inr ⟨hdetached, .inl ⟨rfl, hm, hd⟩⟩))))))
  | rejoin =>
    obtain rfl | ⟨e, rest, -, -, rfl⟩ := taking_cases h
    · exact .inl rfl
    · obtain hkept | ⟨hout, hlisten | ⟨hfounding, hsilent⟩⟩ := rejoin_own (s.without rest) e
      · exact .inl hkept
      · exact .inr (.inl ⟨hlisten, .inr (.inr (.inr (.inr ⟨rfl, hout⟩)))⟩)
      · exact .inr (.inr (.inl ⟨hfounding, hsilent, .inr ⟨rfl, hout⟩⟩))
  | silenceCountLimit =>
    obtain rfl | ⟨-, -, rfl⟩ := happening_cases h
    · exact .inl rfl
    · obtain hkept | ⟨hfounding, hlisten, hsilent⟩ := silenceReached_own s
      · exact .inl hkept
      · exact .inr (.inr (.inl ⟨hfounding, hsilent, .inl ⟨rfl, hlisten⟩⟩))
  | lineMark => exact absurd (.inl rfl) hmark
  | frameMark => exact absurd (.inr rfl) hmark
  | announcePlace others =>
    obtain rfl | ⟨-, henabled, rfl⟩ := happening_cases (f := fun s => s.announcePlaceEnds others) h
    · exact .inl rfl
    · obtain ⟨hsynced, -⟩ := Bool.and_eq_true_iff.1 henabled
      obtain hkept | ⟨w, ha, hread, ⟨h7, hdecides⟩ | ⟨hplace, hd, hconflict⟩⟩ := announcePlaceEnds_changes s others
      · exact .inl hkept
      · have hends : windowEnds := ⟨others, w, rfl, ha, hread, h7, hsynced⟩
        obtain ⟨hlisten, hcounts, hsecond, hnew⟩ | ⟨hm, hrefused⟩ := hdecides
        · have hdecision : joinDecision := ⟨hlisten, hsecond, hends, fun v hv => by
            cases ha.symm.trans hv
            exact hcounts⟩
          obtain hjoining | hconflict | hrefused := hnew
          · exact .inr (.inr (.inr (.inl ⟨hjoining, hdecision⟩)))
          · exact .inr (.inr (.inr (.inr (.inr (.inl ⟨hconflict, .inl hdecision⟩)))))
          · exact .inr (.inr (.inr (.inr (.inr (.inr (.inl ⟨hrefused, .inl hdecision⟩))))))
        · exact .inr (.inr (.inr (.inr (.inr (.inr (.inl ⟨hrefused, .inr (.inl ⟨hends, hm⟩)⟩))))))
      · exact .inr (.inr (.inr (.inr (.inr (.inl ⟨hconflict,
          .inr (.inl ⟨⟨others, w, rfl, ha, hread, hplace⟩, (drives_iff _).1 hd⟩)⟩)))))
  | claimRound bids held =>
    obtain rfl | ⟨-, -, rfl⟩ := happening_cases (f := fun s => s.claimRoundEnds bids held) h
    · exact .inl rfl
    · obtain hkept | ⟨hconflict, ⟨r, hr⟩, hm, hlist⟩ := claimRoundEnds_own s bids held
      · exact .inl hkept
      · exact .inr (.inr (.inr (.inr (.inr (.inl ⟨hconflict, .inr (.inr ⟨⟨bids, held, r, rfl, hr⟩, hm, hlist⟩)⟩)))))
  | _ => exact .inl (exec_own_kept h rfl)

end Sys2Proof.Machine
end

section
/-! SUPPORT. The key of a candidate: its class, and the rank of the station rotated by the frame number. -/

namespace Sys2Proof.Machine

/-! ### The rotated rank (R66) -/

/-- The rank is that of R66: the remainder is taken over the integers, and what the model subtracts from stays positive. -/
theorem rotatedRank_eq (station frame : Nat) :
    (rotatedRank station frame : Int) = 7 - ((station : Int) - (frame : Int)) % 8 := by
  unfold rotatedRank
  omega

theorem rotatedRank_le (station frame : Nat) : rotatedRank station frame ≤ 7 := Nat.sub_le ..

/-- Under one frame number, two stations share a rank only where they are one (R67). -/
theorem rotatedRank_injective {a b frame : Nat} (ha : a < 8) (hb : b < 8) (h : rotatedRank a frame = rotatedRank b frame) :
    a = b := by
  have hranks := congrArg (Nat.cast : Nat → Int) h
  rw [rotatedRank_eq, rotatedRank_eq] at hranks
  omega

/-- The highest rank is that of the station whose number the frame number names modulo 8. -/
theorem rotatedRank_eq_seven_iff {a : Nat} (ha : a < 8) (frame : Nat) : rotatedRank a frame = 7 ↔ a = frame % 8 := by
  have hrank := rotatedRank_eq a frame
  omega

/-! ### The key (R66) -/

/-- The rank fills the three low bits of a key, and the class stands above them. -/
theorem claimKeyOf_div (cls station frame : Nat) : claimKeyOf cls station frame / 8 = cls := by
  have hrank := rotatedRank_le station frame
  unfold claimKeyOf
  omega

/-- A key of a class in its range has six bits. -/
theorem claimKeyOf_le {cls : Nat} (h : cls ≤ 7) (station frame : Nat) : claimKeyOf cls station frame ≤ 63 := by
  have hclass := claimKeyOf_div cls station frame
  omega

/-- The key over the integers, as R66 writes it. -/
theorem claimKeyOf_eq (cls station frame : Nat) :
    (claimKeyOf cls station frame : Int) = (cls : Int) * 8 + (7 - ((station : Int) - (frame : Int)) % 8) := by
  rw [claimKeyOf, Nat.cast_add, Nat.cast_mul, rotatedRank_eq, Nat.cast_ofNat]

/-- Settles O34: a station's key is that of its number under the frame number it holds. -/
theorem keyCombinesClassAndRank : Obligations.KeyCombinesClassAndRank := by
  unfold Obligations.KeyCombinesClassAndRank
  exact ⟨fun s c hclass => ⟨claimKeyOf_eq .., claimKeyOf_le hclass .., claimKeyOf_div ..⟩,
    fun _ _ _ => rotatedRank_injective, fun _ frame ha => rotatedRank_eq_seven_iff ha frame⟩

end Sys2Proof.Machine
end

section
/-! SUPPORT. The commands that return the station's records: the images written out, and what each command removes. -/

namespace Sys2Proof.Machine

/-! ### The images (Tables 6-2 and 7-2) -/

theorem collisionImage_eq (r : CollisionRecord) :
    collisionImage r = [r.frame, BitVec.ofNat 8 r.line, BitVec.ofNat 8 (r.line / 256), BitVec.ofNat 8 r.x,
      BitVec.ofNat 8 (r.x / 256), BitVec.ofNat 8 r.own, BitVec.ofNat 8 (r.station % 8 + if r.more then 128 else 0),
      BitVec.ofNat 8 (r.object % 64)] := by
  rw [collisionImage, toNat_mul_eq_ite]
  rfl

theorem pickOwnImage_eq (p : PickOwn) :
    pickOwnImage p = [BitVec.ofNat 8 p.slot, BitVec.ofNat 8 (p.object % 64 + if p.join then 128 else 0)] := by
  rw [pickOwnImage, toNat_mul_eq_ite]
  rfl

/-- The image of a pick record, with the byte of an absent tag and the winner written out. -/
theorem pickImage_eq (r : PickRecord) :
    pickImage r =
      [match r.tag with | none => 1#8 | some _ => 0#8, r.tag.getD 0#8, r.frame, BitVec.ofNat 8 r.x,
        BitVec.ofNat 8 (r.x / 256), BitVec.ofNat 8 r.line, BitVec.ofNat 8 (r.line / 256)] ++
      (match r.winner with
        | .named station object cls => [0#8, BitVec.ofNat 8 station, BitVec.ofNat 8 object, BitVec.ofNat 8 cls]
        | .backdrop => [1#8, 0#8, 0#8, 0xFF#8]
        | .unknown => [2#8, 0#8, 0#8, 0xFF#8]) ++
      [r.composed, BitVec.ofNat 8 r.own.length] ++
      r.own.flatMap fun p =>
        [BitVec.ofNat 8 p.slot, BitVec.ofNat 8 (p.object % 64 + if p.join then 128 else 0)] := by
  have htag : (match r.tag with | none => 1#8 | some _ => 0#8) = byte1 r.tag.isNone.toNat := by cases r.tag <;> rfl
  rw [htag, ← funext pickOwnImage_eq]
  rfl

/-! ### What the commands remove (R113, R114, R128) -/

/-- READ COLLISIONS of a number in its range removes that many records, or all there are. -/
theorem readCollisions_good {s : State} {e : Entry} {n : Nat} (hn : byteAt e.payload 0 = n) (hl : 1 ≤ n) (hu : n ≤ 8) :
    s.readCollisions e = ({ s with collisions := s.collisions.drop n }).answer e .ok
      (BitVec.ofNat 8 (min n s.collisions.length) :: (s.collisions.take n).flatMap collisionImage) := by
  subst hn
  rw [← List.length_take]
  exact if_pos ⟨hl, hu⟩

theorem readCollisions_bad {s : State} {e : Entry} {n : Nat} (hn : byteAt e.payload 0 = n) (h : n = 0 ∨ 8 < n) :
    s.readCollisions e = s.answer e .badField [] := by
  subst hn
  exact if_neg (by omega)

theorem readPicks_empty {s : State} (h : s.picks.queue = []) (e : Entry) : s.readPicks e = s.answer e .ok [0#8] := by
  rw [State.readPicks, h]

theorem readPicks_oldest {s : State} {r : PickRecord} {others : List PickRecord} (h : s.picks.queue = r :: others) (e : Entry) :
    s.readPicks e = ({ s with picks := { s.picks with queue := others } }).answer e .ok (1#8 :: pickImage r) := by
  rw [State.readPicks, h]

/-- Settles O12: the row of each command takes it, and what it returns is the image of what it removes. -/
theorem readsAnswerFromTheRecords : Obligations.ReadsAnswerFromTheRecords := by
  unfold Obligations.ReadsAnswerFromTheRecords
  refine ⟨fun s tag rest htakes => taking_ordinary htakes rfl rfl State.readEvents,
    fun s tag rest htakes => taking_ordinary htakes rfl rfl State.readShortfall,
    fun s tag n rest htakes => ?_, fun s tag rest htakes => ?_⟩
  · have hrun : exec .readCollisions s = .next (State.readCollisions _ _) := taking_ordinary htakes rfl rfl _
    rw [hrun]
    refine ⟨fun hbad => ?_, fun hl hu => ?_⟩
    · rw [readCollisions_bad (n := n.toNat) rfl (hbad.imp_left (congrArg BitVec.toNat))]
      rfl
    · rw [readCollisions_good (n := n.toNat) rfl hl hu, funext collisionImage_eq]
      rfl
  · have hrun : exec .readPicks s = .next (State.readPicks _ _) := taking_ordinary htakes rfl rfl _
    rw [hrun]
    refine ⟨fun hempty => ?_, fun r others hqueue => ?_⟩
    · rw [readPicks_empty (s := s.without rest) hempty]
      rfl
    · rw [readPicks_oldest (s := s.without rest) hqueue, pickImage_eq]
      rfl

end Sys2Proof.Machine
end

section
/-! SUPPORT. The fetch's reads: what a read adds to the row in progress, and where the fetch goes on from a row that is
complete. -/

namespace Sys2Proof.Machine

/-! ### When a fetch read is served (R133) -/

/-- A fetch that runs is served, unless another client's access is held. -/
theorem mayServe_fetch {s : State} (hf : s.lines.fetching = true)
    (hheld : s.arbiter.held = none ∨ s.arbiter.held = some .fetch) : s.mayServe .fetch = true := by
  have hpresents : s.presents .fetch = true := hf
  obtain hnone | hfetch := hheld
  · have hfree : s.heldClient = none := by rw [State.heldClient, hnone, Option.filter_none]
    rw [mayServe_free hfree, hpresents]
    rfl
  · exact (mayServe_held (Option.filter_eq_some_iff.2 ⟨hfetch, hpresents⟩) _).2 rfl

/-! ### What a read adds to its row (R88, R89) -/

/-- A pixel before the last joins the row. -/
theorem add_before_last {r : Row} (h : r.pixels.length + 1 < r.width) (colour : Option Byte) (v : Byte) :
    r.add colour v = { r with pixels := r.pixels ++ [artEntry v] } :=
  if_neg (by rw [List.length_append, List.length_singleton]; omega)

/-- The last pixel joins the row, which takes its tint and is complete. -/
theorem add_last {r : Row} (h : r.width ≤ r.pixels.length + 1) (colour : Option Byte) (v : Byte) :
    r.add colour v = { r with pixels := tintPixels colour (r.pixels ++ [artEntry v]), complete := true } :=
  if_pos (by rwa [List.length_append, List.length_singleton])

/-- The tint of a copy's row: the pool entry of the row's place, held to the last one of the run (R89). -/
theorem tintPixels_eq (s : State) (copy : Candidate) (L : Nat) (pixels : List (Option Byte)) :
    tintPixels (s.tintColour copy L) pixels = match copy.tint with
      | none => pixels
      | some t => pixels.map fun p => p.map fun _ => s.tints.getD (t.start + min (L - copy.screenY) (t.length - 1)) 0#8 := by
  unfold State.tintColour tintEntry
  cases copy.tint <;> rfl

/-! ### Where the fetch goes on (R87) -/

/-- The state with another row in progress. -/
def State.withRow (s : State) (r : Row) : State :=
  { s with lines := { s.lines with buffer := s.lines.buffer.dropLast ++ [r] } }

/-- A read served at the row in progress. -/
theorem fetchServed_eq {s : State} {g : OwnGrant} {r : Row}
    (hg : s.claim.ownGrants[s.lines.buffer.length - 1]? = some g) (hr : s.lines.buffer.getLast? = some r) :
    let position := artPosition g.copy s.link.lineCounter r.pixels.length
    let read := r.add (s.tintColour g.copy s.link.lineCounter) (s.pixel position.1 position.2)
    s.fetchServed = (if read.complete then (s.withRow read).nextRow else s.withRow read).served := by
  have hgrant : s.fetchGrant = some g := hg
  have hrow : s.fetchRow = some r := hr
  simp only [State.fetchServed, State.fetchPosition, hgrant, hrow]
  rfl

/-- The row in progress changes in its place. -/
theorem withRow_length {s : State} {r : Row} (hr : s.lines.buffer.getLast? = some r) (r' : Row) :
    (s.withRow r').lines.buffer.length = s.lines.buffer.length := by
  obtain ⟨rows, hrows⟩ := List.getLast?_eq_some_iff.1 hr
  simp only [State.withRow, hrows, List.dropLast_concat, List.length_append, List.length_singleton]

/-- With no own grant left, the fetch has ended. -/
theorem nextRow_none {s : State} (h : s.claim.ownGrants[s.lines.buffer.length]? = none) :
    s.nextRow = { s with lines := { s.lines with fetching := false } } := by
  rw [State.nextRow, h]

/-- The row of the next own grant begins. -/
theorem nextRow_some {s : State} {g : OwnGrant} (h : s.claim.ownGrants[s.lines.buffer.length]? = some g) :
    s.nextRow = { s with lines := { s.lines with buffer := s.lines.buffer ++ [startRow g] } } := by
  rw [State.nextRow, h]

/-- Settles O38: the read joins the row by `add_before_last` or `add_last`, and a complete row is followed as `nextRow_none`
and `nextRow_some` say. -/
theorem fetchReadsTheRowOfTheCopy : Obligations.FetchReadsTheRowOfTheCopy := by
  unfold Obligations.FetchReadsTheRowOfTheCopy
  intro s g r hp hf hg hr hincomplete hfault hheld
  extract_lets c row index pixels tinted done
  have hserved : exec .fetchAccessServed s = .next s.fetchServed := accessing_of hp (mayServe_fetch hf hheld) hfault
  have hlast : r.width ≤ c + 1 → s.fetchServed =
      (s.withRow { r with pixels := tinted, complete := true }).nextRow.served := fun hwidth => by
    rw [fetchServed_eq hg hr, add_last hwidth, tintPixels_eq]
    rfl
  refine ⟨fun hwidth => ?_, fun hwidth hnone => ?_, fun g' hwidth hnext => ?_⟩
  · rw [hserved, fetchServed_eq hg hr, add_before_last hwidth]
    simp only [hincomplete]
    rfl
  · rw [hserved, hlast hwidth, nextRow_none (by rw [withRow_length hr]; exact hnone)]
    rfl
  · rw [hserved, hlast hwidth, nextRow_some (by rw [withRow_length hr]; exact hnext), State.withRow, ← List.append_cons]
    rfl

end Sys2Proof.Machine
end

section
/-! SUPPORT. The winner phase of a column: the layout of its words, what the wired-AND makes of words of one slot, and the
phase as it settles. -/

namespace Sys2Proof.Machine

/-! ### The layout of the words of a column (R94) -/

theorem winnerWord_toNat {slot : Nat} (h : slot < 16) (colour : Byte) (watched : Bool) :
    (winnerWord slot colour watched).toNat =
      colour.toNat + 256 * slot + (if watched then 4096 else 0) + 24576 := by
  have hslot : (BitVec.ofNat 4 slot).toNat = slot := Nat.mod_eq_of_lt h
  have hfixed : (0#1 ++ 3#2).toNat = 3 := rfl
  rw [winnerWord, append_toNat, append_toNat, append_toNat, hfixed, hslot, BitVec.toNat_ofBool, ← toNat_mul_eq_ite]
  omega

theorem winnerSlot_eq (word : Lines) : winnerSlot word = word.toNat / 256 % 16 := by
  rw [winnerSlot, BitVec.extractLsb'_toNat, Nat.shiftRight_eq_div_pow]

theorem lowByte_toNat (word : Lines) : (lowByte word).toNat = word.toNat % 256 := by
  rw [lowByte, BitVec.extractLsb'_toNat, Nat.shiftRight_zero]

theorem joinWord_toNat (colour : Byte) : (joinWord colour).toNat + colour.toNat = 65535 := by
  have hlt := colour.isLt
  rw [joinWord, append_toNat, BitVec.toNat_not, BitVec.toNat_ofNat]
  omega

/-- A contribution read back. -/
theorem winnerWord_fields {slot : Nat} (h : slot < 16) (colour : Byte) (watched : Bool) :
    winnerSlot (winnerWord slot colour watched) = slot ∧ lowByte (winnerWord slot colour watched) = colour ∧
      (winnerWord slot colour watched).getLsbD 12 = watched ∧ isBlank (winnerWord slot colour watched) = false := by
  have hword := winnerWord_toNat h colour watched
  have hlt := colour.isLt
  refine ⟨?_, BitVec.eq_of_toNat_eq ?_, ?_, ?_⟩
  · rw [winnerSlot_eq, hword]
    split <;> omega
  · rw [lowByte_toNat, hword]
    split <;> omega
  · rw [BitVec.getLsbD, Nat.testBit_eq_decide_div_mod_eq, hword]
    cases watched with
    | true => exact decide_eq_true (by rw [if_pos rfl]; omega)
    | false => exact decide_eq_false (by rw [if_neg Bool.false_ne_true]; omega)
  · rw [Bool.eq_false_iff, ne_eq, isBlank_iff, hword]
    split <;> omega

/-! ### The wired-AND of contributions of one slot (R25, R94) -/

/-- A contribution as the triple of its slot, its colour and its watched flag, and the word that drives it. -/
def contributedWord (b : Nat × Byte × Bool) : Lines := winnerWord b.1 b.2.1 b.2.2

theorem winnerWord_and (slot : Nat) (a b : Byte) (v w : Bool) :
    winnerWord slot a v &&& winnerWord slot b w = winnerWord slot (a &&& b) (v && w) := by
  refine (BitVec.and_append (x₁ := ((0#1 ++ 3#2) ++ BitVec.ofBool v) ++ BitVec.ofNat 4 slot)).trans ?_
  rw [BitVec.and_append, BitVec.and_append, BitVec.and_self, BitVec.and_self, BitVec.ofBool_and_ofBool]
  rfl

/-- Words of one slot together drive that slot, the AND of their colours and of their watched bits. -/
theorem foldl_contributedWord {slot : Nat} (bs : List (Nat × Byte × Bool)) (h : ∀ b ∈ bs, b.1 = slot) (colour : Byte)
    (watched : Bool) : (bs.map contributedWord).foldl (· &&& ·) (winnerWord slot colour watched) =
      winnerWord slot ((bs.map fun b => b.2.1).foldl (· &&& ·) colour) (watched && bs.all fun b => b.2.2) := by
  induction bs generalizing colour watched with
  | nil => rw [List.all_nil, Bool.and_true]; rfl
  | cons b bs ih =>
    obtain ⟨hb, hbs⟩ := List.forall_mem_cons.1 h
    simp only [List.map_cons, List.foldl_cons, List.all_cons]
    rw [contributedWord, hb, winnerWord_and, ih hbs, Bool.and_assoc]

/-- What LDATA delivers of contributions that are all of one slot, where nothing else is carried. -/
theorem foldl_released_contributedWord {slot : Nat} {bs : List (Nat × Byte × Bool)} (h : ∀ b ∈ bs, b.1 = slot)
    (hne : bs ≠ []) : (bs.map contributedWord).foldl (· &&& ·) released =
      winnerWord slot ((bs.map fun b => b.2.1).foldl (· &&& ·) 0xFF#8) (bs.all fun b => b.2.2) := by
  cases bs with
  | nil => exact absurd rfl hne
  | cons b bs =>
    obtain ⟨hb, hbs⟩ := List.forall_mem_cons.1 h
    have hreleased : released &&& contributedWord b = winnerWord slot b.2.1 b.2.2 := by
      rw [contributedWord, hb]
      exact BitVec.allOnes_and
    have hcolour : 0xFF#8 &&& b.2.1 = b.2.1 := BitVec.allOnes_and
    simp only [List.map_cons, List.foldl_cons, List.all_cons]
    rw [hreleased, foldl_contributedWord bs hbs, hcolour]

/-! ### The phase (R94) -/

/-- The lower the slot a word drives, the higher it stands on the slot lines. -/
theorem standing_slotLines (w : Lines) : standing slotLines w + winnerSlot w = 15 := by
  have hbits : ∀ v : BitVec 4, (!v.getLsbD 3).toNat * 8 + ((!v.getLsbD 2).toNat * 4 + ((!v.getLsbD 1).toNat * 2 +
      ((!v.getLsbD 0).toNat * 1 + 0))) + v.toNat = 15 := by decide
  have hslot := hbits (w.extractLsb' 8 4)
  simp only [BitVec.getLsbD_extractLsb'] at hslot
  exact hslot

/-- A phase with a driver: the contributions of the lowest slot are left, and they are what is read. -/
theorem winnerPhase_settles {c : Contest} {bs : List (Nat × Byte × Bool)} (hdrivers : c.drivers = bs.map contributedWord)
    (hslots : ∀ b ∈ bs, b.1 < 16) (hne : bs ≠ []) :
    let word := (Contest.settle ⟨[], released⟩ slotLines c).bus released
    let winners := bs.filter fun b => b.1 == winnerSlot word
    isBlank word = false ∧ (∀ b ∈ bs, winnerSlot word ≤ b.1) ∧ winners ≠ [] ∧
      lowByte word = (winners.map fun b => b.2.1).foldl (· &&& ·) 0xFF#8 ∧
      word.getLsbD 12 = winners.all fun b => b.2.2 := by
  intro word winners
  obtain ⟨low, hlow, hlowest⟩ := bs.toFinset.exists_min_image (·.1) (List.toFinset_nonempty_iff _ |>.2 hne)
  rw [List.mem_toFinset] at hlow
  replace hlowest : ∀ b ∈ bs, low.1 ≤ b.1 := fun b hb => hlowest b (List.mem_toFinset.2 hb)
  have hstanding : ∀ b ∈ bs, standing slotLines (contributedWord b) + b.1 = 15 := fun b hb => by
    obtain ⟨hslot, -⟩ := winnerWord_fields (hslots b hb) b.2.1 b.2.2
    exact hslot ▸ standing_slotLines (contributedWord b)
  have htops : ∀ b ∈ bs, c.tops slotLines (contributedWord b) = (b.1 == low.1) := fun b hb => by
    rw [Bool.eq_iff_iff, tops_iff, hdrivers, List.forall_mem_map, beq_iff_eq]
    have hb' := hstanding b hb
    refine ⟨fun h => ?_, fun h v hv => ?_⟩
    · have hbelow := h low hlow
      have := hstanding low hlow
      have := hlowest b hb
      omega
    · have := hstanding v hv
      have := hlowest v hv
      omega
  have hleft : (Contest.settle ⟨[], released⟩ slotLines c).drivers =
      (bs.filter fun b => b.1 == low.1).map contributedWord := by
    rw [settle_released, foldl_settleLine slotLines (by decide), filter_drivers, hdrivers, List.filter_map]
    exact congrArg (List.map contributedWord) (List.filter_congr htops)
  have hlowLeft : low ∈ bs.filter fun b => b.1 == low.1 := List.mem_filter.2 ⟨hlow, beq_self_eq_true _⟩
  have hword := (bus_eq released _).trans ((congrArg (List.foldl _ released) hleft).trans
    (foldl_released_contributedWord (fun b hb => beq_iff_eq.1 (List.mem_filter.1 hb).2) (List.ne_nil_of_mem hlowLeft)))
  obtain ⟨hslot, hcolour, hwatched, hblank⟩ := winnerWord_fields (hslots low hlow)
    (((bs.filter fun b => b.1 == low.1).map fun b => b.2.1).foldl (· &&& ·) 0xFF#8)
    ((bs.filter fun b => b.1 == low.1).all fun b => b.2.2)
  simp only [winners, word, hword, hslot]
  exact ⟨hblank, hlowest, List.ne_nil_of_mem hlowLeft, hcolour, hwatched⟩

/-- Settles O39: a phase with contributions settles as `winnerPhase_settles` says, whoever drives them; one without is all
released. -/
theorem columnSettlesOnTheLowestSlot : Obligations.ColumnSettlesOnTheLowestSlot := by
  unfold Obligations.ColumnSettlesOnTheLowestSlot
  refine ⟨fun slot colour watched h => winnerWord_toNat h colour watched, fun word => ⟨winnerSlot_eq word, lowByte_toNat word⟩,
    joinWord_toNat, fun held c => rfl, fun own others hslots => ?_, fun others hslots => ⟨fun hempty => ?_, fun hne => ?_⟩⟩
  · exact winnerPhase_settles (c := { own := some (contributedWord own), rivals := others.map contributedWord })
      (bs := own :: others) rfl hslots (List.cons_ne_nil own others)
  · subst hempty
    exact ⟨by decide, by decide⟩
  · exact winnerPhase_settles (c := { own := none, rivals := others.map contributedWord }) (bs := others) rfl hslots hne

end Sys2Proof.Machine
end

section
/-! SUPPORT. The own rows at a column: the entry of a row, the row that contributes, and the join colours. -/

namespace Sys2Proof.Machine

/-! ### The entry of a row (R92) -/

/-- The entry of a row at a column, with the last column covered named. -/
theorem entryAt_eq (r : Row) (x : Nat) : r.entryAt x =
    if r.complete = true ∧ r.first ≤ (x : Int) ∧ (x : Int) ≤ r.first + r.width - 1 then
      r.pixels.getD ((x : Int) - r.first).toNat none else none := by
  unfold Row.entryAt
  refine if_congr ?_ rfl rfl
  rw [Bool.and_eq_true, Bool.and_eq_true, decide_eq_true_iff, decide_eq_true_iff, and_assoc, Int.le_sub_one_iff]

/-- A row is opaque at a column exactly where it is complete and covers the column with an opaque pixel. -/
theorem entryAt_eq_some {r : Row} {x : Nat} {colour : Byte} : r.entryAt x = some colour ↔
    (r.complete = true ∧ r.first ≤ (x : Int) ∧ (x : Int) ≤ r.first + r.width - 1) ∧
      r.pixels[((x : Int) - r.first).toNat]? = some (some colour) := by
  rw [entryAt_eq, Option.ite_none_right_eq_some, List.getD_eq_getElem?_getD]
  refine and_congr_right fun _ => ?_
  cases r.pixels[((x : Int) - r.first).toNat]? <;> simp

/-! ### The own contribution (R92) -/

/-- What is searched for among the rows of the line buffer. -/
theorem contributes_iff (r : Row) (x : Nat) :
    (!r.join && r.opaqueAt x) = true ↔ r.join = false ∧ (r.entryAt x).isSome = true := by
  rw [Bool.and_eq_true, Bool.not_eq_true', Row.opaqueAt]

theorem contribution_member {s : State} (h : s.member.own = .member) (x : Nat) :
    s.contribution x = s.lines.buffer.find? fun r => !r.join && r.opaqueAt x := if_pos (isMember_iff.2 h)

/-- A station that is not MEMBER has no contribution and reports no row of its own. -/
theorem contribution_other {s : State} (h : s.member.own ≠ .member) (x : Nat) :
    s.contribution x = none ∧ s.ownRows x = [] := ⟨if_neg (mt isMember_iff.1 h), if_neg (mt isMember_iff.1 h)⟩

/-- In an ordered list, what is found first stands no higher than anything else that would be found. -/
theorem find?_lowest {α : Type} {key : α → Nat} {p : α → Bool} {l : List α} (hl : l.Pairwise fun a b => key a < key b) {a : α}
    (h : l.find? p = some a) : ∀ b ∈ l, p b = true → key a ≤ key b := by
  intro b hb hpb
  obtain ⟨-, before, after, rfl, hbefore⟩ := List.find?_eq_some_iff_append.1 h
  obtain hb | hb := List.mem_append.1 hb
  · exact absurd hpb (by simpa using hbefore b hb)
  · obtain rfl | hb := List.mem_cons.1 hb
    · exact le_rfl
    · exact (List.rel_of_pairwise_cons (List.pairwise_append.1 hl).2.1 hb).le

/-! ### The join colours (R93) -/

/-- Colours driven as their complements read as the complement of their OR. -/
theorem joinWord_or (a b : Byte) : joinWord (a ||| b) = joinWord a &&& joinWord b := by
  have hfields := BitVec.and_append (x₁ := 0xFF#8) (x₂ := 0xFF#8) (y₁ := ~~~a) (y₂ := ~~~b)
  rw [BitVec.and_self, ← BitVec.not_or] at hfields
  exact hfields.symm

/-- The join colours of rows at a column, driven together. -/
theorem foldl_joinWord (rows : List Row) (x : Nat) (colour : Byte) :
    rows.foldl (fun w r => match r.entryAt x with | some c => w &&& joinWord c | none => w) (joinWord colour) =
      joinWord (rows.foldl (fun (c : Byte) r => c ||| (r.entryAt x).getD 0#8) colour) := by
  induction rows generalizing colour with
  | nil => rfl
  | cons r rows ih =>
    rw [List.foldl_cons, List.foldl_cons, ← ih]
    cases r.entryAt x with
    | none => rw [Option.getD_none, BitVec.or_zero]
    | some c => rw [Option.getD_some, joinWord_or]

/-- Settles O40: the entry is `entryAt_eq`, the contribution is what `find?` finds in an ordered buffer, and the join colours
fold as `foldl_joinWord` says. -/
theorem ownRowsDriveTheColumn : Obligations.OwnRowsDriveTheColumn := by
  unfold Obligations.OwnRowsDriveTheColumn
  refine ⟨entryAt_eq, fun s x hordered => ⟨fun hnone => ?_, fun hown => contribution_other hown x, fun hown =>
    ⟨fun r hr => ?_, fun hnone r hr hjoin => ?_⟩⟩, fun s x slot => ⟨fun hown => ?_, fun hnone => ?_, fun g hown hg => ?_⟩⟩
  · rw [State.contributionWord, hnone, Option.map_none]
  · have hfound := (contribution_member hown x).symm.trans hr
    obtain ⟨hjoin, hopaque⟩ := (contributes_iff r x).1 (List.find?_some (p := fun r : Row => !r.join && r.opaqueAt x) hfound)
    obtain ⟨colour, hentry⟩ := Option.isSome_iff_exists.1 hopaque
    obtain ⟨⟨hcomplete, hfrom, hto⟩, hpixel⟩ := entryAt_eq_some.1 hentry
    refine ⟨⟨colour, hentry, hpixel, ?_⟩, List.mem_of_find?_eq_some hfound, hjoin, hcomplete, hfrom, hto,
      fun r' hr' hjoin' hopaque' => find?_lowest hordered hfound r' hr' ((contributes_iff r' x).2 ⟨hjoin', hopaque'⟩)⟩
    rw [State.contributionWord, hr, Option.map_some, hentry, Option.getD_some]
  · rw [contribution_member hown, List.find?_eq_none] at hnone
    exact Bool.eq_false_iff.2 fun hopaque => hnone r hr ((contributes_iff r x).2 ⟨hjoin, hopaque⟩)
  · exact (column_silent (Bool.eq_false_iff.2 (mt isMember_iff.1 hown)) x slot).2
  · have hgrant : s.grantOf slot = none := hnone
    rw [State.joinDrive, hgrant]
  · have hgrant : s.grantOf slot = some g := hg
    simp only [State.joinDrive, hgrant, if_pos (isMember_iff.2 hown)]
    exact foldl_joinWord _ x 0#8

end Sys2Proof.Machine
end

section
/-! SUPPORT. The Collision Unit: the losers a column report names, and the three ways the Collision Log takes a collision. -/

namespace Sys2Proof.Machine

/-! ### The collisions of a column (R106, R107) -/

/-- The losers of a column: watched rows that join nothing and stand in another slot than the winning one. -/
theorem collides_eq (slot : Option Nat) (p : OwnPixel) :
    collides slot p = (!p.join && p.watched && decide (slot ≠ some p.slot)) := by
  have hslot : (some p.slot != slot) = decide (slot ≠ some p.slot) := by
    rw [Bool.eq_iff_iff, bne_iff_ne, decide_eq_true_eq, ne_comm]
  rw [collides, hslot]

/-- Where the winner is named, a watched reading at a MEMBER station makes each loser collide with it, and nothing else does. -/
theorem collisionsFound_named (s : State) {rep : ColumnReport} {station object cls : Nat}
    (h : rep.winner = .named station object cls) : s.collisionsFound rep =
      if s.isMember && rep.reading.watched then
        (rep.own.filter (collides rep.reading.slot)).map fun p =>
          { frame := s.link.frameNumber, line := rep.line, x := rep.x, own := p.object, station := station,
            object := object, more := false }
      else [] := by
  simp only [State.collisionsFound, h]

/-- What excludes every collision of a column (R107). -/
theorem collisionsFound_excluded {s : State} {rep : ColumnReport}
    (h : s.member.own ≠ .member ∨ rep.winner = .backdrop ∨ rep.winner = .unknown ∨ rep.reading.watched = false) :
    s.collisionsFound rep = [] := by
  cases hwinner : rep.winner with
  | backdrop => simp only [State.collisionsFound, hwinner]
  | unknown => simp only [State.collisionsFound, hwinner]
  | named station object cls =>
    rw [collisionsFound_named s hwinner]
    refine if_neg fun hfinds => ?_
    obtain ⟨hmember, hwatched⟩ := Bool.and_eq_true_iff.1 hfinds
    obtain hother | hnone | hnone | hunwatched := h
    · exact hother (isMember_iff.1 hmember)
    · exact nomatch hwinner.symm.trans hnone
    · exact nomatch hwinner.symm.trans hnone
    · exact nomatch hwatched.symm.trans hunwatched

/-! ### The Collision Log (R110, R111) -/

/-- Whether the log holds a record of the collision's pair key (R109). -/
theorem any_samePair_iff (log : List CollisionRecord) (c : CollisionRecord) : log.any (samePair c) = true ↔
    ∃ r ∈ log, r.frame = c.frame ∧ r.own = c.own ∧ r.station = c.station ∧ r.object = c.object := by
  rw [List.any_eq_true]
  refine exists_congr fun r => and_congr_right fun _ => (samePair_iff c r).trans ?_
  rw [eq_comm (a := c.frame), eq_comm (a := c.own), eq_comm (a := c.station), eq_comm (a := c.object)]

/-- The more flag is set in the newest record alone. -/
theorem markMore_append (older : List CollisionRecord) (newest : CollisionRecord) :
    markMore (older ++ [newest]) = older ++ [{ newest with more := true }] := by
  rw [markMore, List.getLast?_concat, List.dropLast_concat]

/-- A collision whose pair key stands in the log is discarded. -/
theorem offerCollision_repeated {s : State} {c : CollisionRecord} (h : s.collisions.any (samePair c) = true) :
    s.offerCollision c = s := if_pos h

/-- A new collision that finds the log full is dropped, with the newest record's more flag and LOG_FULL. -/
theorem offerCollision_full {s : State} {c : CollisionRecord} (hnew : ¬s.collisions.any (samePair c) = true)
    (hfull : 8 ≤ s.collisions.length) : s.offerCollision c = { s with
      collisions := markMore s.collisions
      port := { s.port with events := { s.port.events with logFull := oneMore s.port.events.logFull } } } :=
  ((if_neg hnew).trans (if_pos hfull)).trans (congrArg (fun n => ({ s with
    collisions := markMore s.collisions
    port := { s.port with events := { s.port.events with logFull := n } } } : State)) (saturate_oneMore _))

/-- A new collision that finds room joins the log as its newest record, with COLLISION. -/
theorem offerCollision_room {s : State} {c : CollisionRecord} (hnew : ¬s.collisions.any (samePair c) = true)
    (hroom : s.collisions.length < 8) : s.offerCollision c = { s with
      collisions := s.collisions ++ [c]
      port := { s.port with events := { s.port.events with collision := oneMore s.port.events.collision } } } :=
  ((if_neg hnew).trans (if_neg hroom.not_ge)).trans (congrArg (fun n => ({ s with
    collisions := s.collisions ++ [c]
    port := { s.port with events := { s.port.events with collision := n } } } : State)) (saturate_oneMore _))

/-- Settles O43: the losers are those `collides` selects, and the log answers by the branches of `offerCollision`. -/
theorem watchedLosersAreLoggedOncePerPair : Obligations.WatchedLosersAreLoggedOncePerPair := by
  unfold Obligations.WatchedLosersAreLoggedOncePerPair
  refine ⟨fun s rep => ⟨collisionsFound_excluded, fun station object cls hown hwinner hwatched => ?_⟩, fun s c => ?_⟩
  · have hfinds : (s.isMember && rep.reading.watched) = true := by rw [isMember_iff.2 hown, hwatched, Bool.and_self]
    rw [collisionsFound_named s hwinner, if_pos hfinds, funext (collides_eq rep.reading.slot)]
  · intro repeats
    have hrepeats : s.collisions.any (samePair c) = true ↔ repeats := any_samePair_iff s.collisions c
    refine ⟨fun h => offerCollision_repeated (hrepeats.2 h), fun older newest hnew hlog hfull => ?_,
      fun hnew hroom => offerCollision_room (mt hrepeats.1 hnew) hroom⟩
    rw [offerCollision_full (mt hrepeats.1 hnew) hfull, hlog, markMore_append]

end Sys2Proof.Machine
end

section
/-! SUPPORT. PICK AT, and the records that a column report makes: first those of the pending points at its position, then that
of a trigger resolved there, all offered to the Pick Queue in that order. -/

namespace Sys2Proof.Machine

/-! ### PICK AT (R120) -/

/-- A position outside the active part is answered with BAD_FIELD. -/
theorem pickAt_outside {s : State} {e : Entry} {x y : Nat} (hx : wordAt e.payload 0 = x) (hy : wordAt e.payload 2 = y)
    (h : s.geometry.activePixels ≤ x ∨ s.geometry.activeLines ≤ y) : s.pickAt e = s.answer e .badField [] := by
  subst hx hy
  exact if_pos h

/-- A position in the active part goes by the room of the Pending Point List. -/
theorem pickAt_inside {s : State} {e : Entry} {x y : Nat} (hx : wordAt e.payload 0 = x) (hy : wordAt e.payload 2 = y)
    (hxa : x < s.geometry.activePixels) (hya : y < s.geometry.activeLines) :
    s.pickAt e = if 4 ≤ s.picks.points.length then s.answer e .full [] else
      ({ s with picks := { s.picks with points := s.picks.points ++ [{ tag := e.tag, x := x, y := y }] } } : State).answer
        e .ok [BitVec.ofNat 8 (s.picks.points.length + 1)] := by
  subst hx hy
  exact if_neg (not_or.2 ⟨hxa.not_ge, hya.not_ge⟩)

/-- Settles O44: the two words of the payload are the position that `pickAt_outside` and `pickAt_inside` speak of. -/
theorem pickAtPlacesAPoint : Obligations.PickAtPlacesAPoint := by
  unfold Obligations.PickAtPlacesAPoint
  intro s tag x0 x1 y0 y1 rest htakes x y
  have hrun : exec .pickAt s = .next (State.pickAt _ _) := taking_ordinary htakes rfl rfl _
  have hx : wordAt (Entry.ordinary 0x50#8 tag [x0, x1, y0, y1]).payload 0 = x := (byte_append_toNat x0 x1).symm
  have hy : wordAt (Entry.ordinary 0x50#8 tag [x0, x1, y0, y1]).payload 2 = y := (byte_append_toNat y0 y1).symm
  rw [hrun]
  refine ⟨fun houtside => ?_, fun hxa hya hfull => ?_, fun hxa hya hroom => ?_⟩
  · rw [pickAt_outside (s := s.without rest) hx hy houtside]
    rfl
  · rw [pickAt_inside (s := s.without rest) hx hy hxa hya]
    exact congrArg Host.Outcome.next (if_pos hfull)
  · rw [pickAt_inside (s := s.without rest) hx hy hxa hya]
    exact congrArg Host.Outcome.next (if_neg hroom.not_ge)

/-! ### Records offered in a row (R127) -/

/-- The station with records at the end of its Pick Queue, and that many more counts of PICK and of PICK_LOST. -/
def State.offered (s : State) (queued : List PickRecord) (made lost : Nat) : State :=
  { s with
    picks := { s.picks with queue := s.picks.queue ++ queued }
    port := { s.port with events := { s.port.events with
      pick := min 255 (s.port.events.pick + made), pickLost := min 255 (s.port.events.pickLost + lost) } } }

theorem offered_none {s : State} (hp : s.port.events.pick ≤ 255) (hl : s.port.events.pickLost ≤ 255) :
    s.offered [] 0 0 = s := by
  rw [State.offered, List.append_nil, Nat.add_zero, Nat.add_zero, min_eq_right hp, min_eq_right hl]

/-- A count that has stopped at 255 stays there. -/
theorem saturated_add (n a b : Nat) : min 255 (min 255 (n + a) + b) = min 255 (n + (a + b)) := by omega

theorem offered_offered (s : State) (queued queued' : List PickRecord) (made made' lost lost' : Nat) :
    (s.offered queued made lost).offered queued' made' lost' =
      s.offered (queued ++ queued') (made + made') (lost + lost') := by
  simp only [State.offered, List.append_assoc, saturated_add]

/-- One record either joins the queue or is lost. -/
theorem offerPick_offered {s : State} (r : PickRecord) (hp : s.port.events.pick ≤ 255) (hl : s.port.events.pickLost ≤ 255) :
    s.offerPick r = if s.picks.queue.length < 4 then s.offered [r] 1 0 else s.offered [] 0 1 := by
  split
  next hroom =>
    simp only [offerPick_room r hroom, ← saturate_oneMore, saturate, State.offered, Nat.add_zero, min_eq_right hl]
  next hfull =>
    simp only [offerPick_full r (Nat.not_lt.1 hfull), ← saturate_oneMore, saturate, State.offered, List.append_nil,
      Nat.add_zero, min_eq_right hp]

/-- Of records offered in a row, as many as there is room for join the queue, and the others are lost. -/
theorem foldl_offerPick (records : List PickRecord) {s : State} (hp : s.port.events.pick ≤ 255)
    (hl : s.port.events.pickLost ≤ 255) :
    records.foldl State.offerPick s = s.offered (records.take (4 - s.picks.queue.length))
      (min (4 - s.picks.queue.length) records.length) (records.length - (4 - s.picks.queue.length)) := by
  induction records generalizing s with
  | nil =>
    rw [List.take_nil, List.length_nil, Nat.min_zero, Nat.zero_sub]
    exact (offered_none hp hl).symm
  | cons r records ih =>
    rw [List.foldl_cons, offerPick_offered r hp hl]
    split
    next hroom =>
      obtain ⟨room, hr⟩ : ∃ room, 4 - s.picks.queue.length = room + 1 := ⟨3 - s.picks.queue.length, by omega⟩
      have hafter : 4 - (s.offered [r] 1 0).picks.queue.length = room := by
        simp only [State.offered, List.length_append, List.length_singleton]
        omega
      rw [ih (min_le_left ..) (min_le_left ..), hafter, hr, offered_offered, List.take_succ_cons, List.length_cons,
        Nat.add_min_add_right, Nat.add_sub_add_right, Nat.add_comm 1, Nat.zero_add]
      rfl
    next hfull =>
      have hnone : 4 - s.picks.queue.length = 0 := by omega
      have hafter : 4 - (s.offered [] 0 1).picks.queue.length = 0 := by
        rw [State.offered, List.append_nil, hnone]
      rw [ih (min_le_left ..) (min_le_left ..), hafter, hnone, offered_offered, List.length_cons, Nat.add_comm 1]
      simp only [List.take_zero, Nat.zero_min, Nat.sub_zero, List.append_nil, Nat.add_zero]

/-! ### The records of a report (R121, R123, R126) -/

/-- Whether a trigger pick is resolved at the report: a waiting edge, or the trigger point at column 0 (R123). -/
def State.triggerDue (s : State) (rep : ColumnReport) : Bool := s.picks.edgeWaiting || (s.picks.trigger && rep.x == 0)

/-- The records of a report, in the order in which they are offered. -/
def State.pickRecords (s : State) (rep : ColumnReport) : List PickRecord :=
  ((s.picks.points.filter (pointAt rep)).map fun p => s.pickRecord (some p.tag) rep) ++
    if s.triggerDue rep then [s.pickRecord none rep] else []

/-- The station with other marks of its trigger picks. -/
def State.marked (s : State) (trigger edgeWaiting edgeTaken : Bool) : State :=
  { s with picks := { s.picks with trigger := trigger, edgeWaiting := edgeWaiting, edgeTaken := edgeTaken } }

/-- The station with the points at the report's position out of its list. -/
def State.pointsTaken (s : State) (rep : ColumnReport) : State :=
  { s with picks := { s.picks with points := s.picks.points.filter fun p => !pointAt rep p } }

theorem offerPick_marked (s : State) (trigger edgeWaiting edgeTaken : Bool) (r : PickRecord) :
    (s.marked trigger edgeWaiting edgeTaken).offerPick r = (s.offerPick r).marked trigger edgeWaiting edgeTaken := by
  unfold State.offerPick
  rw [apply_ite (fun t : State => t.marked trigger edgeWaiting edgeTaken)]
  rfl

theorem foldl_offerPick_marked (records : List PickRecord) (s : State) (trigger edgeWaiting edgeTaken : Bool) :
    records.foldl State.offerPick (s.marked trigger edgeWaiting edgeTaken) =
      (records.foldl State.offerPick s).marked trigger edgeWaiting edgeTaken :=
  List.foldl_hom (fun t : State => t.marked trigger edgeWaiting edgeTaken) fun t r =>
    offerPick_marked t trigger edgeWaiting edgeTaken r

/-- A record offered leaves what the next records are made from, and the marks of the trigger picks. -/
theorem offerPick_keeps_marks (s : State) (r : PickRecord) : (s.offerPick r).link = s.link ∧
    (s.offerPick r).picks.trigger = s.picks.trigger ∧ (s.offerPick r).picks.edgeWaiting = s.picks.edgeWaiting := by
  unfold State.offerPick
  split <;> exact ⟨rfl, rfl, rfl⟩

theorem foldl_offerPick_keeps_marks (records : List PickRecord) (s : State) :
    (records.foldl State.offerPick s).link = s.link ∧
    (records.foldl State.offerPick s).picks.trigger = s.picks.trigger ∧
    (records.foldl State.offerPick s).picks.edgeWaiting = s.picks.edgeWaiting := by
  refine List.foldlRecOn (motive := fun t : State => t.link = s.link ∧ t.picks.trigger = s.picks.trigger ∧
    t.picks.edgeWaiting = s.picks.edgeWaiting) _ _ ⟨rfl, rfl, rfl⟩ fun t ⟨hlink, htrigger, hwaiting⟩ r _ => ?_
  obtain ⟨hlink', htrigger', hwaiting'⟩ := offerPick_keeps_marks t r
  exact ⟨hlink'.trans hlink, htrigger'.trans htrigger, hwaiting'.trans hwaiting⟩

/-- A record is made from the report under the frame number alone. -/
theorem pickRecord_congr {s t : State} (h : t.link = s.link) (tag : Option Byte) (rep : ColumnReport) :
    t.pickRecord tag rep = s.pickRecord tag rep := by
  rw [State.pickRecord, h, State.pickRecord]

/-- The records of points may be made before any of them is offered. -/
theorem foldl_offerPoint (rep : ColumnReport) (points : List PickPoint) (s : State) :
    points.foldl (State.offerPoint rep) s =
      (points.map fun p => s.pickRecord (some p.tag) rep).foldl State.offerPick s := by
  induction points generalizing s with
  | nil => rfl
  | cons p points ih =>
    obtain ⟨hlink, -⟩ := offerPick_keeps_marks s (s.pickRecord (some p.tag) rep)
    rw [List.foldl_cons, List.map_cons, List.foldl_cons, ih, State.offerPoint]
    simp only [pickRecord_congr hlink]

/-- Where no trigger pick is due, none waits, and no trigger point stands at the report's column. -/
theorem triggerDue_eq_false {s : State} {rep : ColumnReport} (h : s.triggerDue rep = false) :
    s.picks.edgeWaiting = false ∧ (s.picks.trigger && rep.x != 0) = s.picks.trigger := by
  obtain ⟨hwaiting, hcolumn⟩ := Bool.or_eq_false_iff.1 h
  refine ⟨hwaiting, ?_⟩
  cases htrigger : s.picks.trigger with
  | false => rfl
  | true => rw [bne, (Bool.and_eq_false_imp.1 hcolumn) htrigger]; rfl

/-- A trigger resolved, or none: the marks are brought up to date, and its record is offered. -/
theorem resolveTrigger_eq (s : State) (rep : ColumnReport) : s.resolveTrigger rep =
    (if s.triggerDue rep then [s.pickRecord none rep] else []).foldl State.offerPick
      (s.marked (s.picks.trigger && rep.x != 0) false (s.triggerDue rep)) := by
  cases hdue : s.triggerDue rep with
  | true => exact if_pos hdue
  | false =>
    obtain ⟨hwaiting, htrigger⟩ := triggerDue_eq_false hdue
    have hmarks : s.marked s.picks.trigger s.picks.edgeWaiting false = s.marked (s.picks.trigger && rep.x != 0) false false := by
      rw [htrigger, hwaiting]
    exact (if_neg (Bool.eq_false_iff.1 hdue)).trans hmarks

/-- A report examined: its records are offered to the station whose points and marks are up to date. -/
theorem examinePicks_eq (s : State) (rep : ColumnReport) : s.examinePicks rep = (s.pickRecords rep).foldl State.offerPick
    ((s.pointsTaken rep).marked (s.picks.trigger && rep.x != 0) false (s.triggerDue rep)) := by
  have hpoints : s.resolvePoints rep = ((s.picks.points.filter (pointAt rep)).map fun p =>
      s.pickRecord (some p.tag) rep).foldl State.offerPick (s.pointsTaken rep) := foldl_offerPoint rep _ (s.pointsTaken rep)
  obtain ⟨hlink, htrigger, hwaiting⟩ : (s.resolvePoints rep).link = s.link ∧
      (s.resolvePoints rep).picks.trigger = s.picks.trigger ∧
      (s.resolvePoints rep).picks.edgeWaiting = s.picks.edgeWaiting := hpoints ▸ foldl_offerPick_keeps_marks _ (s.pointsTaken rep)
  have hdue : (s.resolvePoints rep).triggerDue rep = s.triggerDue rep := by
    rw [State.triggerDue, htrigger, hwaiting, State.triggerDue]
  rw [State.examinePicks, resolveTrigger_eq, hdue, pickRecord_congr hlink, htrigger, hpoints, State.pickRecords,
    List.foldl_append]
  simp only [foldl_offerPick_marked]

/-- Settles O45: `foldl_offerPick` says what becomes of the records that `examinePicks_eq` offers. -/
theorem columnReportResolvesPicks : Obligations.ColumnReportResolvesPicks := by
  unfold Obligations.ColumnReportResolvesPicks
  intro s rep hp hl record here triggered records room t
  have hhere : here = pointAt rep := funext fun p => Bool.decide_and _ _
  have hrecords : s.pickRecords rep = records := by
    simp only [records, hhere]
    rfl
  have hdue : s.triggerDue rep = true ↔ triggered := by
    simp only [State.triggerDue, triggered, Bool.or_eq_true, Bool.and_eq_true, beq_iff_eq]
  have ht : t = ((s.pointsTaken rep).marked (s.picks.trigger && rep.x != 0) false (s.triggerDue rep)).offered
      (records.take room) (min room records.length) (records.length - room) :=
    hrecords ▸ (examinePicks_eq s rep).trans (foldl_offerPick _ hp hl)
  rw [ht, hhere]
  refine ⟨rfl, rfl, rfl, rfl, fun _ => ⟨rfl, rfl⟩, fun hnone => ?_, rfl⟩
  exact (triggerDue_eq_false (Bool.eq_false_iff.2 (mt hdue.1 hnone))).2

end Sys2Proof.Machine
end

section
/-! SUPPORT. The port transfers: how SURFACE WRITE and SURFACE READ begin them. -/

namespace Sys2Proof.Machine

/-! ### The checks of a transfer (R135, R137) -/

/-- A run fits where its row and its last column are on the surface. -/
theorem runFits_iff (x y count : Nat) : runFits x y count = true ↔ y ≤ 511 ∧ x + count ≤ 512 := by
  have hsurface : surfaceSize = 512 := rfl
  simp only [runFits, Bool.and_eq_true, decide_eq_true_eq, hsurface]
  omega

/-- A SURFACE WRITE goes by whether its run of pixels fits. -/
theorem surfaceWrite_eq {s : State} {e : Entry} {x y : Nat} {pixels : List Byte} (hx : wordAt e.payload 0 = x)
    (hy : wordAt e.payload 2 = y) (hp : e.payload.drop 4 = pixels) :
    s.surfaceWrite e =
      if y ≤ 511 ∧ x + pixels.length ≤ 512 then s.beginTransfer (.write e.tag x y pixels 0)
      else s.answer e .badField [] := by
  subst hx hy hp
  simp only [State.surfaceWrite, runFits_iff]

/-- A SURFACE READ goes by its count and by whether its run of pixels fits. -/
theorem surfaceRead_eq {s : State} {e : Entry} {x y count : Nat} (hx : wordAt e.payload 0 = x) (hy : wordAt e.payload 2 = y)
    (hc : byteAt e.payload 4 = count) :
    s.surfaceRead e =
      if 1 ≤ count ∧ count ≤ 240 ∧ y ≤ 511 ∧ x + count ≤ 512 then s.beginTransfer (.read e.tag x y count [])
      else s.answer e .badField [] := by
  subst hx hy hc
  simp only [State.surfaceRead, runFits_iff]

/-- Settles O47: each command begins its transfer where its checks pass, and is answered where one fails. -/
theorem surfaceTransferBegins : Obligations.SurfaceTransferBegins := by
  unfold Obligations.SurfaceTransferBegins
  intro s tag x0 x1 y0 y1 rest x y begun
  refine ⟨fun pixels hl hu htakes => ?_, fun count htakes => ?_⟩
  · have hrun : exec .surfaceWrite s = .next (State.surfaceWrite _ _) :=
      taking_ordinary htakes rfl (by simp [commandAllows]; omega) _
    have heq := surfaceWrite_eq (s := s.without rest) (e := .ordinary 0x20#8 tag ([x0, x1, y0, y1] ++ pixels))
      (pixels := pixels) (byte_append_toNat x0 x1).symm
      (byte_append_toNat y0 y1).symm rfl
    rw [hrun, heq]
    refine ⟨fun hrow hlast => ?_, fun hbad => ?_⟩
    · exact congrArg Host.Outcome.next (if_pos ⟨hrow, hlast⟩)
    · exact congrArg Host.Outcome.next (if_neg (by omega))
  · have hrun : exec .surfaceRead s = .next (State.surfaceRead _ _) := taking_ordinary htakes rfl rfl _
    have heq := surfaceRead_eq (s := s.without rest) (e := .ordinary 0x21#8 tag [x0, x1, y0, y1, count])
      (count := count.toNat) (byte_append_toNat x0 x1).symm
      (byte_append_toNat y0 y1).symm rfl
    rw [hrun, heq]
    refine ⟨fun hl hu hrow hlast => ?_, fun hbad => ?_⟩
    · exact congrArg Host.Outcome.next (if_pos ⟨hl, hu, hrow, hlast⟩)
    · refine congrArg Host.Outcome.next (if_neg ?_)
      rintro ⟨hl, hu, hrow, hlast⟩
      obtain rfl | hbad := hbad
      · exact absurd hl (by decide)
      · omega

end Sys2Proof.Machine
end

section
/-! SUPPORT. Command frames: what a frame's bytes are received as, and what the station does with an entry they carry. -/

namespace Sys2Proof.Machine

/-! ### What a frame is received as (R158, R159, R164) -/

theorem commandOf_drawAbort (code : Byte) : commandOf code = some .drawAbort ↔ code = 0x3F#8 := by
  revert code; decide

theorem commandOf_restart (code : Byte) : commandOf code = some .restart ↔ code = 0x7F#8 := by
  revert code; decide

/-- The fields a whole frame spells: its length byte, and a sum of 0 over all of its bytes. -/
theorem commandFrame_spells {code tag : Byte} {payload : List Byte} (h : payload.length ≤ 255) :
    byteAt (commandFrame code tag payload) 2 = payload.length ∧
    (commandFrame code tag payload).take (4 + payload.length) = commandFrame code tag payload ∧
    frameSum (commandFrame code tag payload) = 0#8 ∧
    ((commandFrame code tag payload).drop 3).take payload.length = payload :=
  ⟨byte1_toNat (by omega), List.take_of_length_le (commandFrame_length ..).le, frameSum_checked _,
    by simp [commandFrame, commandBody]⟩

/-- A whole frame of any length is the immediate command it names, or the ordinary entry it carries; 249 bytes or more are not
kept. -/
theorem receive_wholeFrame {code tag : Byte} {payload : List Byte} (h : payload.length ≤ 255) :
    receive (commandFrame code tag payload) =
      if payload = [] ∧ code = 0x3F#8 then .abort
      else if payload = [] ∧ code = 0x7F#8 then .restart
      else .entry { bad := false, code := code, tag := tag, length := payload.length,
                    payload := if payload.length ≤ 248 then payload else [] } := by
  obtain ⟨hlength, hwhole, hsum, hpayload⟩ := commandFrame_spells (code := code) (tag := tag) h
  have hcode : (commandFrame code tag payload).getD 0 0#8 = code := rfl
  have htag : (commandFrame code tag payload).getD 1 0#8 = tag := rfl
  unfold receive
  simp only [hlength, hwhole, hsum, hcode, htag, commandFrame_length, goodEntry, hpayload, lt_irrefl, decide_false,
    bne_self_eq_false, Bool.or_self, Bool.false_eq_true, if_false, Bool.and_eq_true, decide_eq_true_eq, beq_iff_eq,
    List.length_eq_zero_iff, commandOf_drawAbort, commandOf_restart]

/-- A frame that is cut, or whose sum is not 0, is a bad-frame entry. -/
theorem receive_badFrame {bytes : List Byte} (hwell : frameWellFormed bytes = true)
    (h : bytes.length < 4 + byteAt bytes 2 ∨ frameSum bytes ≠ 0#8) : receive bytes = .entry (badEntry bytes) := by
  have hwhole : bytes.take (4 + byteAt bytes 2) = bytes := by
    refine List.take_of_length_le ?_
    unfold frameWellFormed at hwell
    unfold byteAt
    rw [List.getD_eq_getElem?_getD]
    cases hn : bytes[2]? with
    | none =>
      have := List.getElem?_eq_none_iff.1 hn
      omega
    | some n => simpa [hn] using hwell
  unfold receive
  simp only [hwhole, Bool.or_eq_true, decide_eq_true_eq, bne_iff_ne]
  exact if_pos h

/-! ### An entry received (R133, R159) -/

/-- An entry offered joins the queue, or is dropped with OVERRUN. -/
theorem offerEntry_eq (s : State) (e : Entry) :
    s.offerEntry e = { s with port := { s.port with
      commands := if s.port.commands.length < 8 then s.port.commands ++ [e] else s.port.commands
      events := if s.port.commands.length < 8 then s.port.events
        else { s.port.events with overrun := oneMore s.port.events.overrun } } } := by
  unfold State.offerEntry
  by_cases hroom : s.port.commands.length < 8
  · simp only [if_pos hroom]
    exact if_pos hroom
  · simp only [if_neg hroom, ← saturate_oneMore]
    exact if_neg hroom

/-- A frame that carries an entry: it is offered, and the access being served keeps the arbiter. -/
theorem exec_entryFrame {s : State} {bytes : List Byte} {e : Entry} (inService : Option Client) (hp : s.resetPin = false)
    (h : receive bytes = .entry e) :
    exec (.commandFrameReceived bytes inService) s = .next { s with
      port := { s.port with
        commands := if s.port.commands.length < 8 then s.port.commands ++ [e] else s.port.commands
        events := if s.port.commands.length < 8 then s.port.events
          else { s.port.events with overrun := oneMore s.port.events.overrun }
        pdo := List.replicate bytes.length 0#8 }
      arbiter := { portMayHold := false, engineMayHold := false, held := s.serving inService } } := by
  have hserved : exec (.commandFrameReceived bytes inService) s =
      .next ((s.send (List.replicate bytes.length 0#8)).receiveFrame (receive bytes) inService) :=
    accessing_of (f := fun s => (s.send _).receiveFrame (receive bytes) inService) hp rfl (by rw [h]; rfl)
  rw [hserved, h, State.receiveFrame, offerEntry_eq]
  rfl

/-- Two accesses with one fault and one effect come to the same. -/
theorem accessing_congr {s t : State} {f g : State → State} (fault : Option Fault) (hs : s.resetPin = false)
    (ht : t.resetPin = false) (h : f s = g t) : s.accessing true fault f = t.accessing true fault g := by
  unfold State.accessing
  rw [hs, ht, h]
  rfl

/-- A frame received as an immediate command acts as that command, after its bytes have been clocked. -/
theorem exec_abortFrame {s : State} {bytes : List Byte} (inService : Option Client) (hp : s.resetPin = false)
    (h : receive bytes = .abort) : exec (.commandFrameReceived bytes inService) s =
      exec (.drawAbort inService) (s.send (List.replicate bytes.length 0#8)) := by
  simp only [exec, execCommandFrameReceived, h]
  exact (accessing_of hp rfl rfl).trans
    (happening_of (s := s.send (List.replicate bytes.length 0#8)) (f := fun s => s.drawAborted inService) hp rfl).symm

theorem exec_restartFrame {s : State} {bytes : List Byte} (inService : Option Client) (hp : s.resetPin = false)
    (h : receive bytes = .restart) : exec (.commandFrameReceived bytes inService) s =
      exec (.restart inService) (s.send (List.replicate bytes.length 0#8)) := by
  simp only [exec, execCommandFrameReceived, h]
  exact accessing_congr (t := s.send (List.replicate bytes.length 0#8)) (s.finishFault inService) hp hp rfl

/-- Settles O7: the frame is received as `receive_wholeFrame` and `receive_badFrame` say. -/
theorem commandFrameIsReceived : Obligations.CommandFrameIsReceived := by
  unfold Obligations.CommandFrameIsReceived
  refine ⟨fun s code tag payload inService hp hl hordinary => ?_, fun s bytes inService hp hwell hbad => ?_,
    fun s tag inService hp => ⟨?_, ?_⟩⟩
  · have hreceived := receive_wholeFrame (code := code) (tag := tag) hl
    rw [if_neg fun h => hordinary ⟨h.1, .inl h.2⟩, if_neg fun h => hordinary ⟨h.1, .inr h.2⟩] at hreceived
    rw [exec_entryFrame inService hp hreceived, commandFrame_length, Nat.add_comm]
  · exact exec_entryFrame inService hp (receive_badFrame hwell hbad)
  · have hreceived : receive (commandFrame 0x3F#8 tag []) = .abort := receive_wholeFrame (payload := []) (by decide)
    exact exec_abortFrame inService hp hreceived
  · have hreceived : receive (commandFrame 0x7F#8 tag []) = .restart := receive_wholeFrame (payload := []) (by decide)
    exact exec_restartFrame inService hp hreceived

end Sys2Proof.Machine
end

section
/-! SUPPORT. The Store Arbiter as the rows of its clients meet it: who presents an access, who may be served, which rows
wait, and what a port access served does. -/

namespace Sys2Proof.Machine

/-! ### Who presents an access (R133) -/

theorem presents_port_iff (s : State) : s.presents .port = true ↔ s.port.transfer ≠ none := Option.isSome_iff_ne_none

theorem presents_engine_iff (s : State) : s.presents .engine = true ↔
    (∃ e p, s.engine.mode = .running e p) ∨ ∃ e p q, s.engine.mode = .stopping e p q := by
  unfold State.presents
  cases s.engine.mode <;> simp [EngineMode.presents]

/-- The engine presents an access exactly where it has a command in hand that has begun. -/
theorem presents_engine_iff_current (s : State) : s.presents .engine = true ↔ engineCurrent s.engine.mode ≠ none := by
  unfold State.presents
  cases s.engine.mode <;> simp [EngineMode.presents, engineCurrent]

/-! ### Who may be served (R133; log entry 9) -/

/-- The access named by a frame is under service for as long as its client presents it. -/
theorem heldClient_some {s : State} {c : Client} (hheld : s.arbiter.held = some c) (hp : s.presents c = true) :
    s.heldClient = some c :=
  Option.filter_eq_some_iff.2 ⟨hheld, hp⟩

/-- Where none is named, or its client has withdrawn it, no access is known to be under service. -/
theorem heldClient_none {s : State} (h : ∀ c, s.arbiter.held = some c → s.presents c = false) : s.heldClient = none :=
  Option.filter_eq_none_iff.2 fun c hc => Bool.eq_false_iff.1 (h c hc)

/-- While one client's access is held, no other is served. -/
theorem mayServe_other {s : State} {c d : Client} (hheld : s.arbiter.held = some c) (hp : s.presents c = true) (hd : d ≠ c) :
    s.mayServe d = false :=
  Bool.eq_false_iff.2 fun h => hd ((mayServe_held (heldClient_some hheld hp) d).1 h)

/-- A client that the order does not allow, and whose access is not held, is not served. -/
theorem mayServe_waits {s : State} {c : Client} (hheld : s.arbiter.held ≠ some c) (ho : s.inOrder c = false) :
    s.mayServe c = false := by
  refine Bool.eq_false_iff.2 fun h => ?_
  cases hk : s.heldClient with
  | none => rw [mayServe_free hk, ho, Bool.and_false] at h; cases h
  | some d =>
    obtain rfl := (mayServe_held hk c).1 h
    exact hheld (Option.filter_eq_some_iff.1 hk).1

/-- A client that the order allows is served, where none is held or its own access is. -/
theorem mayServe_inOrder {s : State} {c : Client} (hp : s.presents c = true) (ho : s.inOrder c = true)
    (hheld : s.arbiter.held = none ∨ s.arbiter.held = some c) : s.mayServe c = true := by
  obtain hnone | hown := hheld
  · rw [mayServe_free (heldClient_none fun d hd => by rw [hnone] at hd; cases hd), hp, ho]
    rfl
  · exact (mayServe_held (heldClient_some hown hp) c).2 rfl

theorem inOrder_port_iff (s : State) :
    s.inOrder .port = true ↔ s.lines.fetching = false ∨ s.arbiter.portMayHold = true := by
  simp [State.inOrder, State.presents]

theorem inOrder_engine_iff (s : State) : s.inOrder .engine = true ↔
    (s.lines.fetching = false ∧ s.port.transfer = none) ∨ s.arbiter.engineMayHold = true := by
  simp [State.inOrder, State.presents]

theorem inOrder_port_waits {s : State} (hf : s.lines.fetching = true) (hhold : s.arbiter.portMayHold = false) :
    s.inOrder .port = false :=
  Bool.eq_false_iff.2 fun h => by simp [inOrder_port_iff, hf, hhold] at h

theorem inOrder_engine_waits {s : State} (hw : s.lines.fetching = true ∨ s.port.transfer ≠ none)
    (hhold : s.arbiter.engineMayHold = false) : s.inOrder .engine = false := by
  refine Bool.eq_false_iff.2 fun h => ?_
  obtain ⟨hf, ht⟩ | h := (inOrder_engine_iff s).1 h
  · exact hw.elim (by simp [hf]) fun hne => hne ht
  · rw [hhold] at h; cases h

/-! ### Rows whose client is not served -/

theorem exec_fetchAccess_waits {s : State} (h : s.mayServe .fetch = false) : exec .fetchAccessServed s = .next s :=
  accessing_off h

theorem exec_engineAccess_waits {s : State} (h : s.mayServe .engine = false) : exec .engineAccessServed s = .next s :=
  accessing_off h

theorem exec_portAccess_waits {s : State} (h : s.mayServe .port = false) :
    exec .portWriteAccessServed s = .next s ∧ exec .portReadAccessServed s = .next s :=
  ⟨accessing_off (by rw [h, Bool.and_false]), accessing_off (by rw [h, Bool.and_false])⟩

/-! ### A port access served (R136, R137) -/

/-- A write access served: the pixel is set, and the transfer goes on or is complete. -/
theorem exec_portWriteAccess {s : State} {tag : Byte} {x y next : Nat} {pixels : List Byte} (hp : s.resetPin = false)
    (hm : s.mayServe .port = true) (ht : s.port.transfer = some (.write tag x y pixels next)) (hx : x + next ≤ 511)
    (hy : y ≤ 511) :
    exec .portWriteAccessServed s = .next (
      let written := (s.setPixel (x + next) y (pixels.getD next 0#8)).served
      if pixels.length ≤ next + 1 then written.endTransfer tag 0x20#8 []
      else { written with port := { written.port with transfer := some (.write tag x y pixels (next + 1)) } }) := by
  have hrow : (s.writesPort && s.mayServe .port) = true := by rw [hm, State.writesPort, ht]; rfl
  have hfault : s.portFault = none := by rw [State.portFault, ht]; exact surfaceFault_none hx hy
  refine (accessing_of hp hrow hfault).trans (congrArg Host.Outcome.next ?_)
  simp only [State.portServed, State.portWrites, ht]

/-- A read access served: the index of the pixel joins those got, and the transfer goes on or is complete. -/
theorem exec_portReadAccess {s : State} {tag : Byte} {x y count : Nat} {got : List Byte} (hp : s.resetPin = false)
    (hm : s.mayServe .port = true) (ht : s.port.transfer = some (.read tag x y count got)) (hx : x + got.length ≤ 511)
    (hy : y ≤ 511) :
    exec .portReadAccessServed s = .next (
      let read := got ++ [s.pixel (x + got.length) y]
      if count ≤ got.length + 1 then s.served.endTransfer tag 0x21#8 read
      else { s.served with port := { s.served.port with transfer := some (.read tag x y count read) } }) := by
  have hrow : (s.readsPort && s.mayServe .port) = true := by rw [hm, State.readsPort, ht]; rfl
  have hfault : s.portFault = none := by rw [State.portFault, ht]; exact surfaceFault_none hx hy
  refine (accessing_of hp hrow hfault).trans (congrArg Host.Outcome.next ?_)
  simp only [State.portServed, ht, List.length_append, List.length_singleton]

/-- A pixel read after a write at an address. -/
theorem pixel_write (s : State) (x y address : Nat) (v : Byte) (h : Memory.wf s.surface = true) :
    ({ s with surface := Memory.write s.surface address v } : State).pixel x y =
      if 512 * y + x = address then v else s.pixel x y := by
  split
  · rename_i ha
    subst ha
    exact Memory.read_write_same _ _ _ h
  · rename_i ha
    exact Memory.read_write_other _ _ _ _ ha

/-- Settles O48: the arbiter's choice by `mayServe_held` and `mayServe_free`, the rows that wait by `mayServe_other` and
`mayServe_waits`, and the access served. -/
theorem portAccessIsServed : Obligations.PortAccessIsServed := by
  unfold Obligations.PortAccessIsServed
  refine ⟨fun s => ⟨Iff.rfl, presents_port_iff s, presents_engine_iff s,
    fun c h hheld hp => mayServe_held (heldClient_some hheld hp) c, fun hnone => ?_⟩, pixel_write,
    fun s => ⟨fun hf hhold hheld => ?_, fun hw hhold hheld => ?_, fun hheld hf => ?_, fun hheld ht => ?_,
      fun hheld hc => ?_⟩, fun s tag x y hp hy horder hheld => ?_⟩
  · have hfree := mayServe_free (heldClient_none hnone)
    refine ⟨?_, ?_, ?_⟩
    · rw [hfree, Bool.and_eq_true]
      exact and_iff_left rfl
    · rw [hfree, Bool.and_eq_true, inOrder_port_iff]
    · rw [hfree, Bool.and_eq_true, inOrder_engine_iff]
  · exact exec_portAccess_waits (mayServe_waits hheld (inOrder_port_waits hf hhold))
  · exact exec_engineAccess_waits (mayServe_waits hheld (inOrder_engine_waits hw hhold))
  · have hother : ∀ d, d ≠ .fetch → s.mayServe d = false := fun d => mayServe_other hheld hf
    obtain ⟨hwrite, hread⟩ := exec_portAccess_waits (hother .port nofun)
    exact ⟨hwrite, hread, exec_engineAccess_waits (hother .engine nofun)⟩
  · have hother : ∀ d, d ≠ .port → s.mayServe d = false := fun d => mayServe_other hheld ((presents_port_iff s).2 ht)
    exact ⟨exec_fetchAccess_waits (hother .fetch nofun), exec_engineAccess_waits (hother .engine nofun)⟩
  · have hother : ∀ d, d ≠ .engine → s.mayServe d = false :=
      fun d => mayServe_other hheld ((presents_engine_iff_current s).2 hc)
    exact ⟨exec_fetchAccess_waits (hother .fetch nofun), exec_portAccess_waits (hother .port nofun)⟩
  · have hserved : ∀ t, s.port.transfer = some t → s.mayServe .port = true := fun t ht =>
      mayServe_inOrder ((presents_port_iff s).2 (by rw [ht]; nofun)) ((inOrder_port_iff s).2 horder) hheld
    refine ⟨fun pixels next ht hx => ?_, fun count got ht hx => ?_⟩
    · rw [exec_portWriteAccess hp (hserved _ ht) ht hx hy]
      refine ⟨fun hmore => ?_, fun hlast => ?_⟩
      · exact congrArg Host.Outcome.next (if_neg hmore.not_ge)
      · exact congrArg Host.Outcome.next (if_pos hlast)
    · rw [exec_portReadAccess hp (hserved _ ht) ht hx hy]
      refine ⟨fun hmore => ?_, fun hlast => ?_⟩
      · exact congrArg Host.Outcome.next (if_neg hmore.not_ge)
      · exact congrArg Host.Outcome.next (if_pos hlast)

end Sys2Proof.Machine
end

section
/-! SUPPORT. An access of the Drawing Engine served: the pixel it writes, and where the engine goes on from there. -/

namespace Sys2Proof.Machine

/-! ### The access (R132, R133, R146) -/

/-- What an access of a command leaves of the surface: its pixel takes the value written, or nothing changes. -/
def State.surfaceAfter (s : State) (d : DrawCmd) (p : Progress) : Memory :=
  match accessWrite d p (s.pixel (accessPosition d p).1 (accessPosition d p).2) with
  | none => s.surface
  | some v => Memory.write s.surface (512 * (accessPosition d p).2 + (accessPosition d p).1) v

theorem engineWrites_eq {s : State} {e : DrawEntry} {p : Progress} (h : engineCurrent s.engine.mode = some (e, p)) :
    s.engineWrites = { s with surface := s.surfaceAfter e.cmd p } := by
  simp only [State.engineWrites, State.surfaceAfter, h]
  cases accessWrite e.cmd p (s.pixel (accessPosition e.cmd p).1 (accessPosition e.cmd p).2) <;> rfl

/-- The station once the access has been served, before the engine goes on: no other is still under service from before. -/
def State.accessed (s : State) (d : DrawCmd) (p : Progress) : State :=
  { s with surface := s.surfaceAfter d p, arbiter := { portMayHold := false, engineMayHold := false } }

/-- The engine's access is served where it stands alone at the arbiter and names a place that exists. -/
theorem exec_engineAccess {s : State} {e : DrawEntry} {p : Progress} (hp : s.resetPin = false)
    (h : engineCurrent s.engine.mode = some (e, p)) (hf : s.lines.fetching = false) (ht : s.port.transfer = none)
    (hfault : s.engineFault = none) :
    exec .engineAccessServed s = .next ((s.accessed e.cmd p).engineAdvances
      (s.pixel (accessPosition e.cmd p).1 (accessPosition e.cmd p).2)) := by
  have hpresents : s.presents .engine = true := (presents_engine_iff_current s).2 (by rw [h]; nofun)
  have hserved : exec .engineAccessServed s = .next s.engineServed :=
    accessing_of hp (mayServe_engine_alone hpresents hf ht) hfault
  rw [hserved, State.engineServed, State.enginePosition, h, engineWrites_eq h]
  rfl

/-! ### Where the engine goes on (R148, R154, R155) -/

theorem engineAdvances_running {s : State} {e : DrawEntry} {p : Progress} (h : s.engine.mode = .running e p) (old : Byte) :
    s.engineAdvances old =
      if hasEnded e.cmd (progressAfter e.cmd p old) then
        engineLoad s.engine.queue (s.answerDraw e .ok (endState e.cmd (progressAfter e.cmd p old)))
      else { s with engine := { s.engine with mode := .running e (progressAfter e.cmd p old) } } := by
  simp only [State.engineAdvances, h]

theorem engineAdvances_stopping {s : State} {e : DrawEntry} {p : Progress} {aborted : List DrawEntry}
    (h : s.engine.mode = .stopping e p aborted) (old : Byte) :
    s.engineAdvances old =
      if (progressAfter e.cmd p old).source.isNone then
        engineLoad s.engine.queue ((s.answerDraw e .aborted (endState e.cmd (progressAfter e.cmd p old))).abortAll aborted)
      else { s with engine := { s.engine with mode := .stopping e (progressAfter e.cmd p old) aborted } } := by
  simp only [State.engineAdvances, h]

/-! ### The commands of one colour (R146) -/

/-- The command paints each of its pixels with one colour by one operation: a FILL, a LINE or a PLOT. -/
def DrawCmd.Paints (d : DrawCmd) (op : DrawOp) (colour : Byte) : Prop :=
  (∃ skip sync x y w h, d = .fill op skip sync x y w h colour) ∨
    (∃ skip sync x0 y0 x1 y1, d = .line op skip sync x0 y0 x1 y1 colour) ∨
    (∃ skip sync x y, d = .plot op skip sync x y colour)

/-- Each access of such a command writes its pixel, and processes one more. -/
theorem DrawCmd.Paints.access {d : DrawCmd} {op : DrawOp} {colour : Byte} (h : d.Paints op colour) (p : Progress) (old : Byte) :
    accessWrite d p old = some (op.apply colour old) ∧ progressAfter d p old = { p with done := p.done + 1 } := by
  obtain ⟨_, _, _, _, _, _, rfl⟩ | ⟨_, _, _, _, _, _, rfl⟩ | ⟨_, _, _, _, rfl⟩ := h <;> exact ⟨rfl, rfl⟩

/-- It has ended once all its pixels are processed. -/
theorem DrawCmd.Paints.hasEnded_iff {d : DrawCmd} {op : DrawOp} {colour : Byte} (h : d.Paints op colour) (p : Progress) :
    hasEnded d p = true ↔ pixelCount d ≤ p.done := by
  obtain ⟨_, _, _, _, _, _, rfl⟩ | ⟨_, _, _, _, _, _, rfl⟩ | ⟨_, _, _, _, rfl⟩ := h <;> exact decide_eq_true_iff

/-- Its access served: the pixel takes the value of the operation, and the command goes on or ends. -/
theorem exec_paint {s : State} {e : DrawEntry} {p : Progress} {op : DrawOp} {colour value : Byte} {x y : Nat}
    (hp : s.resetPin = false) (hrun : s.engine.mode = .running e p) (hf : s.lines.fetching = false)
    (ht : s.port.transfer = none) (hpaints : e.cmd.Paints op colour) (hxy : accessPosition e.cmd p = (x, y))
    (hx : x ≤ 511) (hy : y ≤ 511) (hvalue : op.apply colour (s.pixel x y) = value) :
    let written : State := { s with
      surface := Memory.write s.surface (512 * y + x) value
      arbiter := { portMayHold := false, engineMayHold := false } }
    exec .engineAccessServed s = .next (
      if pixelCount e.cmd ≤ p.done + 1 then
        engineLoad s.engine.queue (written.answerDraw e .ok (endState e.cmd { p with done := p.done + 1 }))
      else { written with engine := { s.engine with mode := .running e { p with done := p.done + 1 } } }) := by
  have hcurrent : engineCurrent s.engine.mode = some (e, p) := by rw [hrun]; rfl
  have hfault : s.engineFault = none := by
    rw [State.engineFault, State.enginePosition, hcurrent, Option.map_some, hxy]
    exact surfaceFault_none hx hy
  obtain ⟨hwrite, hprogress⟩ := hpaints.access p (s.pixel x y)
  rw [exec_engineAccess hp hcurrent hf ht hfault, engineAdvances_running (s := s.accessed e.cmd p) hrun, hxy, hprogress,
    State.accessed, State.surfaceAfter, hxy, hwrite, hvalue]
  simp only [hpaints.hasEnded_iff]

/-! ### The next command (R143) -/

theorem engineLoad_waits {e : DrawEntry} (h : drawSync e.cmd = true) (rest : List DrawEntry) (s : State) :
    engineLoad (e :: rest) s = { s with engine := { mode := .waiting e, queue := rest } } :=
  if_pos h

theorem engineLoad_runs {e : DrawEntry} (hs : drawSync e.cmd = false) (hn : presentsNothing e.cmd = false)
    (rest : List DrawEntry) (s : State) :
    engineLoad (e :: rest) s = { s with engine := { mode := .running e .none, queue := rest } } :=
  (if_neg (Bool.eq_false_iff.1 hs)).trans (if_neg (Bool.eq_false_iff.1 hn))

/-! ### The pixels and the end states (R147, R150, Table 9-4) -/

/-- The pixels of a LINE are one more than its major extent. -/
theorem pixelCount_line (op : DrawOp) (skip sync : Bool) (x0 y0 x1 y1 : Nat) (colour : Byte) :
    pixelCount (.line op skip sync x0 y0 x1 y1 colour) = (max |(x1 : Int) - x0| |(y1 : Int) - y0|).toNat + 1 := by
  simp only [pixelCount, span, Int.abs_eq_natAbs]
  omega

/-- A FILL whose pixels are all processed has done the rows of its cut height, and no pixel of a further row. -/
theorem endState_fill_ended {op : DrawOp} {skip sync : Bool} {x y w h : Nat} {colour : Byte} {p : Progress}
    (hw : 1 ≤ min w (512 - x)) (hp : p.done = min w (512 - x) * min h (512 - y)) :
    endState (.fill op skip sync x y w h colour) p =
      byte2 (min w (512 - x)) ++ byte2 (min h (512 - y)) ++ byte2 0 := by
  have hcut : cutWidth (.fill op skip sync x y w h colour) = min w (512 - x) := rfl
  rw [endState, hcut, hp, Nat.mul_div_cancel_left _ hw, Nat.mul_mod_right]

/-- Settles O52: the access by `exec_paint`, and the engine's next command by `engineLoad`. -/
theorem engineWritesItsPixel : Obligations.EngineWritesItsPixel := by
  unfold Obligations.EngineWritesItsPixel
  refine ⟨fun op skip sync x y w h colour p => ⟨rfl, rfl, rfl, endState_fill_ended⟩,
    fun op skip sync x0 y0 x1 y1 colour p => ⟨rfl, pixelCount_line .., fun hdone => ?_⟩,
    fun op skip sync x y colour p => ⟨rfl, rfl, rfl, rfl⟩,
    fun s e p op colour hp hrun hf ht hpaints => ?_⟩
  · rw [← hdone]
    rfl
  · intro x y hx hy old value written
    have hvalue : op.apply colour old = value := by cases op <;> rfl
    rw [exec_paint (x := x) (y := y) hp hrun hf ht hpaints rfl hx hy hvalue]
    refine ⟨fun hmore => congrArg Host.Outcome.next (if_neg hmore.not_ge), fun hlast => ?_⟩
    rw [if_pos hlast]
    intro answered
    refine ⟨fun hq => ?_, fun skipped tail hq hs => ?_, fun e' rest hq hsync => ?_, fun e' rest hq hsync hn => ?_⟩
    · rw [hq]
      rfl
    · rw [hq, engineLoad_skips hs]
      rfl
    · rw [hq, engineLoad_waits hsync]
      rfl
    · rw [hq, engineLoad_runs hsync hn]
      rfl

end Sys2Proof.Machine
end

section
/-! SUPPORT. DRAW ABORT: the end states of the draw commands, the engine it stops, and the pixel in progress served after it. -/

namespace Sys2Proof.Machine

/-! ### The end states written out (R149, R154, Table 9-4) -/

/-- The cut width of a COPY, at the edges of source and destination together (R147). -/
theorem cutWidth_copy (op : DrawOp) (skip left up sync : Bool) (sx sy dx dy w h : Nat) :
    cutWidth (.copy op skip left up sync sx sy dx dy w h) = min w (min (512 - sx) (512 - dx)) :=
  (inf_inf_distrib_left w (512 - sx) (512 - dx)).symm

/-- Its cut height. -/
theorem cutHeight_copy (op : DrawOp) (skip left up sync : Bool) (sx sy dx dy w h : Nat) :
    cutHeight (.copy op skip left up sync sx sy dx dy w h) = min h (min (512 - sy) (512 - dy)) :=
  (inf_inf_distrib_left h (512 - sy) (512 - dy)).symm

/-- A COPY that has not begun gives the rows at which it would begin. -/
theorem zeroState_copy (op : DrawOp) (skip left up sync : Bool) (sx sy dx dy w h : Nat) :
    let first := if up then min h (min (512 - sy) (512 - dy)) - 1 else 0
    zeroState (.copy op skip left up sync sx sy dx dy w h) =
      byte2 0 ++ byte2 0 ++ byte2 0 ++ byte2 (sy + first) ++ byte2 (dy + first) := by
  rw [zeroState, offsetOf, cutHeight_copy, Nat.sub_zero]

/-- One that has begun gives its cut width, the rows done, the pixels done after them, and the rows of its last pixel. -/
theorem endState_copy (op : DrawOp) (skip left up sync : Bool) (sx sy dx dy w h : Nat) (p : Progress) :
    let cw := min w (min (512 - sx) (512 - dx))
    let ch := min h (min (512 - sy) (512 - dy))
    let first := if up then ch - 1 else 0
    let last := if p.done = 0 then first else if up then ch - 1 - (p.done - 1) / cw else (p.done - 1) / cw
    endState (.copy op skip left up sync sx sy dx dy w h) p =
      byte2 cw ++ byte2 (p.done / cw) ++ byte2 (p.done % cw) ++ byte2 (sy + last) ++ byte2 (dy + last) := by
  intro cw ch first last
  have hlast : offsetOf up ch (lastRowIndex cw p.done) = last := by
    simp only [last, first, lastRowIndex, offsetOf]
    by_cases h : p.done = 0
    · simp only [if_pos h, Nat.sub_zero]
    · simp only [if_neg h]
  rw [endState, cutWidth_copy, cutHeight_copy]
  exact hlast ▸ rfl

/-- The last column that a SEEK has examined; with none examined, the column it would begin at. -/
theorem seekColumn_last (left : Bool) (x done : Nat) :
    seekColumn left x (done - 1) = if done = 0 then x else if left then x - (done - 1) else x + (done - 1) := by
  split
  · rename_i h
    subst h
    cases left <;> rfl
  · rfl

/-- A flag in a byte. -/
theorem byte1_toNat_bool (b : Bool) : byte1 b.toNat = if b then 1#8 else 0#8 := by cases b <;> rfl

/-- The access of a COPY: its source first, and then its destination (R149). -/
theorem copy_position (op : DrawOp) (skip left up sync : Bool) (sx sy dx dy w h : Nat) (p : Progress) :
    let cw := min w (min (512 - sx) (512 - dx))
    let ch := min h (min (512 - sy) (512 - dy))
    let column := if left then cw - 1 - p.done % cw else p.done % cw
    let row := if up then ch - 1 - p.done / cw else p.done / cw
    accessPosition (.copy op skip left up sync sx sy dx dy w h) p =
      if p.source.isSome then (dx + column, dy + row) else (sx + column, sy + row) := by
  simp only [accessPosition, copyOffsets, offsetOf, cutWidth_copy, cutHeight_copy]

/-! ### The access under service (R133; log entry 9) -/

/-- With none known to be under service, the operand counts where the arbiter may be serving the client it names. -/
theorem serving_free {s : State} (h : s.arbiter.held = none) :
    s.serving none = none ∧ ∀ c, s.serving (some c) = if s.mayServe c then some c else none := by
  have hfree : s.heldClient = none := heldClient_none fun c hc => by rw [h] at hc; cases hc
  refine ⟨?_, fun c => ?_⟩
  · rw [State.serving, hfree]
    rfl
  · rw [State.serving, hfree, Option.none_or, Option.filter_some]

/-- An access known to be under service is the one being served, whatever the operand names. -/
theorem serving_held {s : State} {c : Client} (hheld : s.arbiter.held = some c) (hp : s.presents c = true)
    (inService : Option Client) : s.serving inService = some c := by
  rw [State.serving, heldClient_some hheld hp, Option.some_or]

/-- A running command's pixel is in progress as DRAW ABORT arrives: a source has been read, or its access is being served. -/
theorem pixelInProgress_hold (s : State) (inService : Option Client) (p : Progress) :
    (s.hold inService).pixelInProgress p = true ↔ p.source ≠ none ∨ s.serving inService = some .engine := by
  have hheld : (s.hold inService).heldClient = some .engine ↔ s.serving inService = some .engine :=
    ⟨fun h => (Option.filter_eq_some_iff.1 h).1, fun h => (serving_hold h).2.1⟩
  rw [State.pixelInProgress, Bool.or_eq_true, Option.isSome_iff_ne_none, beq_iff_eq, hheld]

/-! ### The engine stopped (R155) -/

theorem exec_drawAbort {s : State} (hp : s.resetPin = false) (inService : Option Client) :
    exec (.drawAbort inService) s = .next (s.hold inService).engineAborted :=
  happening_of (f := fun s => s.drawAborted inService) hp rfl

theorem engineAborted_idle {s : State} (h : s.engine = { mode := .idle, queue := [] }) : s.engineAborted = s := by
  simp only [State.engineAborted, h, State.abortAll, List.foldl_nil]
  rw [← h]

theorem engineAborted_waiting {s : State} {e : DrawEntry} (h : s.engine.mode = .waiting e) :
    s.engineAborted = (({ s with engine := { mode := .idle, queue := [] } } : State).answerDraw e .aborted
      (zeroState e.cmd)).abortAll s.engine.queue := by
  simp only [State.engineAborted, h]

theorem engineAborted_running {s : State} {e : DrawEntry} {p : Progress} (h : s.engine.mode = .running e p) :
    s.engineAborted = if s.pixelInProgress p then { s with engine := { mode := .stopping e p s.engine.queue, queue := [] } }
      else (({ s with engine := { mode := .idle, queue := [] } } : State).answerDraw e .aborted
        (endState e.cmd p)).abortAll s.engine.queue := by
  simp only [State.engineAborted, h]

theorem engineAborted_stopping {s : State} {e : DrawEntry} {p : Progress} {aborted : List DrawEntry}
    (h : s.engine.mode = .stopping e p aborted) :
    s.engineAborted = { s with engine := { mode := .stopping e p (aborted ++ s.engine.queue), queue := [] } } := by
  simp only [State.engineAborted, h]

/-- Settles O55: the end states written out, the engine stopped in each of its modes, and the pixel in progress by
`engineAdvances_stopping`. -/
theorem drawAbortStopsTheEngine : Obligations.DrawAbortStopsTheEngine := by
  unfold Obligations.DrawAbortStopsTheEngine
  refine ⟨?_, ?_, fun left differ sync x y value p old => ⟨rfl, rfl, rfl⟩, fun sync x y p old => ⟨rfl, rfl, rfl⟩,
    fun d op colour p old hpaints => DrawCmd.Paints.access hpaints p old, ?_, ?_⟩
  · intro word
    refine ⟨fun op skip sync x y w h colour p => ⟨rfl, rfl⟩,
      fun op skip left up sync sx sy dx dy w h p => ⟨rfl, zeroState_copy .., endState_copy ..⟩,
      fun op skip sync x0 y0 x1 y1 colour p => ⟨rfl, rfl⟩, fun left differ sync x y value p => ⟨rfl, rfl, ?_⟩,
      fun op skip sync x y colour p => ⟨rfl, rfl⟩, fun sync x y p => ⟨rfl, rfl, rfl⟩⟩
    rw [endState, seekColumn_last, byte1_toNat_bool]
    rfl
  · intro op skip left up sync sx sy dx dy w h p old d cw ch column row
    have hposition : accessPosition d p = _ := copy_position op skip left up sync sx sy dx dy w h p
    refine ⟨fun hsource => ?_, fun source hsource => ?_⟩
    · rw [hposition, hsource]
      refine ⟨rfl, ?_, ?_⟩
      · simp only [d, accessWrite, hsource, Option.map_none]
      · simp only [d, progressAfter, hsource, Bool.and_eq_true, beq_iff_eq]
    · rw [hposition, hsource]
      refine ⟨rfl, ?_, ?_⟩
      · simp only [d, accessWrite, hsource, Option.map_some]
      · simp only [d, progressAfter, hsource]
  · intro s inService hp zero holds
    rw [exec_drawAbort hp]
    refine ⟨serving_free, fun c hheld hpresents => serving_held hheld hpresents inService, fun hidle => ?_,
      fun e hwaits => ?_, fun e p hrun hsource hnamed => ?_, fun e p hrun hpixel => ?_, fun e p aborted hstops => ?_⟩
    · rw [engineAborted_idle (s := s.hold inService) hidle]
      rfl
    · rw [engineAborted_waiting (s := s.hold inService) hwaits, abortAll_eq]
      rfl
    · have hnone : ¬(s.hold inService).pixelInProgress p = true := fun h =>
        ((pixelInProgress_hold s inService p).1 h).elim (fun hne => hne hsource) hnamed
      rw [engineAborted_running (s := s.hold inService) hrun, if_neg hnone, abortAll_eq]
      rfl
    · rw [engineAborted_running (s := s.hold inService) hrun, if_pos ((pixelInProgress_hold s inService p).2 hpixel)]
      rfl
    · rw [engineAborted_stopping (s := s.hold inService) hstops]
      rfl
  · intro s e p aborted skipped tail hp hengine hs hf ht hfault thenNext xy after surface
    have hmode : s.engine.mode = .stopping e p aborted := by rw [hengine]
    have hqueue : s.engine.queue = skipped ++ tail := by rw [hengine]
    have hcurrent : engineCurrent s.engine.mode = some (e, p) := by rw [hmode]; rfl
    rw [exec_engineAccess hp hcurrent hf ht hfault, engineAdvances_stopping (s := s.accessed e.cmd p) hmode]
    refine ⟨fun hdone => ?_, fun hmore => ?_⟩
    · have hended : after.source.isNone = true := by rw [hdone]; rfl
      rw [if_pos hended, abortAll_eq]
      show Host.Outcome.next (engineLoad s.engine.queue _) = _
      rw [hqueue, engineLoad_skips hs]
      rfl
    · have hgoes : ¬after.source.isNone = true := fun h => hmore (Option.isNone_iff_eq_none.1 h)
      rw [if_neg hgoes, ← hqueue]
      rfl

end Sys2Proof.Machine
end

section
/-! SUPPORT. The surface over every happening: the rows that leave it as it is, and the accesses that write a pixel of it. -/

namespace Sys2Proof.Machine

/-! ### Marks and time leave the surface -/

theorem takeLineMark_surface (s : State) : s.takeLineMark.surface = s.surface := by
  have hflags : (s.restartClocks.consumeFlags .line).surface = s.surface :=
    (consumeFlags_ownChange s.restartClocks .line).surface
  obtain ⟨hadvance, -⟩ := advanceLine_frame (s.restartClocks.consumeFlags .line)
  unfold State.takeLineMark
  split
  · exact hadvance.surface.trans hflags
  · exact hflags

theorem takeFrameMark_surface (s : State) : s.takeFrameMark.surface = s.surface := by
  have hcount : s.restartClocks.frameCount.surface = s.surface := by unfold State.frameCount; dsimp only; split <;> rfl
  have hmember := (frameMembership_ownChange s.restartClocks.frameCount s.link.synced).surface
  have hturn : ∀ t : State, t.turnOver.surface = t.surface := fun t => by unfold State.turnOver; dsimp only; split <;> rfl
  unfold State.takeFrameMark
  rw [openActiveLine_eq, engineStart_eq]
  exact (hturn _).trans (hmember.trans hcount)

theorem takeMark_surface (s : State) (seen : MarkKind) : (s.takeMark seen).surface = s.surface := by
  have hreach : (s.leadingEdge.reach decisionPoint).surface = s.surface :=
    ((leadingEdge_linkFrame s).trans (reach_linkFrame _ _)).surface
  unfold State.takeMark
  dsimp only
  split
  · exact (takeLineMark_surface _).trans hreach
  · exact (takeFrameMark_surface _).trans hreach

theorem timerRunsOut_surface (s : State) : s.timerRunsOut.surface = s.surface := by
  unfold State.timerRunsOut
  split
  · rfl
  · exact (driveMark_linkFrame _ _).surface

/-! ### The windows, the columns and the picks leave it -/

theorem frameWordEnds_surface (s : State) (others : Lines) : (s.frameWordEnds others).surface = s.surface := by
  unfold State.frameWordEnds
  split
  · rfl
  · split
    · rfl
    · rw [readFrameWord_eq]
      exact (reach_linkFrame s frameWordEnd).surface

theorem endPlace_surface (s : State) (w : AnnounceWindow) (others : Lines) : (s.endPlace w others).surface = s.surface := by
  have htake : ∀ (t : State) (n : Nat) (word : Lines), (t.takePlace n word).surface = t.surface := fun t n word => by
    unfold State.takePlace
    dsimp only
    split <;> rfl
  unfold State.endPlace
  extract_lets drives driven read s1 s2
  have h1 : s1.surface = s.surface := (htake _ _ _).trans (by rw [State.drive_surface]; split <;> rfl)
  have h2 : s2.surface = s1.surface := by
    unfold s2
    split
    · exact (readBackPlace_placeFrame s1 driven read).surface
    · rfl
  exact (nextPlace_placeFrame s2 _).surface.trans (h2.trans h1)

theorem announcePlaceEnds_surface (s : State) (others : Lines) : (s.announcePlaceEnds others).surface = s.surface := by
  unfold State.announcePlaceEnds
  split
  · rfl
  · split
    · exact (endPlace_surface _ _ _).trans (reach_linkFrame s _).surface
    · rfl

theorem claimRoundEnds_surface (s : State) (bids : List Lines) (held : Carried) :
    (s.claimRoundEnds bids held).surface = s.surface := by
  unfold State.claimRoundEnds
  split
  · rfl
  · rename_i r _
    refine Eq.trans ?_ (reach_linkFrame s (roundEnd r)).surface
    unfold State.endRound
    dsimp only
    split
    · exact (closeWindow_roundEnds _).surface
    · exact (drivenRound_roundEnds _ _ _ _).surface.trans (compareBid_bidFrame _ _ _ _ _).surface

theorem columnResolved_surface (s : State) (rivals : List Lines) (held : Carried) (join : Lines) :
    (s.columnResolved rivals held join).surface = s.surface := by
  unfold State.columnResolved
  split
  · rfl
  · obtain ⟨-, -, -, -, -, -, -, hsurface, -⟩ := (examined_offersTo s (s.reported _ rivals held join)).frame
    rw [reach_moved, resolveColumn_moved, State.moved_surface, hsurface]

theorem pickEdge_surface (s : State) : s.pickEdge.surface = s.surface := by
  have hoffer : ∀ (t : State) (r : PickRecord), (t.offerPick r).surface = t.surface := fun t r => by
    unfold State.offerPick
    split <;> rfl
  unfold State.pickEdge State.edgeInColumn
  split
  · split
    · split
      · split
        · rfl
        · exact hoffer _ _
      · split <;> rfl
    · split <;> rfl
  · rfl

theorem fetchServed_surface (s : State) : s.fetchServed.surface = s.surface := by
  have hnext : ∀ t : State, t.nextRow.surface = t.surface := fun t => by
    unfold State.nextRow
    split <;> rfl
  unfold State.fetchServed
  split
  · rw [State.served_surface]
    split
    · exact hnext _
    · rfl
  · rfl

/-! ### The commands and the engine's own steps leave it -/

theorem engineLoad_surface (q : List DrawEntry) (s : State) : (engineLoad q s).surface = s.surface := by
  rw [engineLoad_eq]

theorem takeDraw_surface (c : Command) (e : Entry) (s : State) : (s.takeDraw c e).surface = s.surface := by
  unfold State.takeDraw
  split
  · rfl
  · unfold State.acceptDraw
    split
    · exact engineLoad_surface _ _
    all_goals rfl

theorem engineAdvances_surface (s : State) (old : Byte) : (s.engineAdvances old).surface = s.surface := by
  unfold State.engineAdvances
  split
  · rfl
  · rfl
  · dsimp only
    split
    · exact engineLoad_surface _ _
    · rfl
  · dsimp only
    split
    · rw [engineLoad_surface, abortAll_eq]
      rfl
    · rfl

theorem engineAborted_surface (s : State) : s.engineAborted.surface = s.surface := by
  unfold State.engineAborted
  simp only [abortAll_eq]
  split
  · rfl
  · rfl
  · split <;> rfl
  · rfl

theorem offerEntry_surface (s : State) (e : Entry) : (s.offerEntry e).surface = s.surface := by rw [offerEntry_eq]

theorem queueUpdate_surface (s : State) (e : Entry) (u : PendingEntry) : (s.queueUpdate e u).surface = s.surface := by
  unfold State.queueUpdate
  split <;> rfl

theorem detach_surface (s : State) (e : Entry) : (s.detach e).surface = s.surface := by
  unfold State.detach
  split
  · rfl
  · rfl
  all_goals exact (changeState_linkFrame s .detached).surface

theorem rejoin_surface (s : State) (e : Entry) : (s.rejoin e).surface = s.surface := by
  unfold State.rejoin
  split
  iterate 3 exact ((changeState_linkFrame s .listen).trans (atSilenceLimit_linkFrame _)).surface
  all_goals rfl

/-- A port access served leaves the surface as its write left it. -/
theorem portServed_surface (s : State) : s.portServed.surface = s.portWrites.surface := by
  unfold State.portServed
  split
  · rename_i ht
    rw [State.portWrites, ht]
  · split <;> rfl
  · rename_i ht
    rw [State.portWrites, ht]
    dsimp only
    split <;> rfl

/-- An engine access served leaves it as its write left it. -/
theorem engineServed_surface (s : State) : s.engineServed.surface = s.engineWrites.surface := by
  unfold State.engineServed State.enginePosition
  split
  · rename_i h
    rw [State.engineWrites, Option.map_eq_none_iff.1 h]
  · rw [engineAdvances_surface, State.served_surface]

/-! ### The rows that write no pixel -/

theorem happening_surface {s t : State} {enabled : Bool} {f : State → State} (h : s.happening enabled f = .next t)
    (hf : (f s).surface = s.surface) : t.surface = s.surface := by
  obtain rfl | ⟨-, -, rfl⟩ := happening_cases h
  · rfl
  · exact hf

theorem taking_surface {s t : State} {row : Entry → Bool} {act : Entry → State → State} (h : s.taking row act = .next t)
    (hact : ∀ (u : State) (e : Entry), (act e u).surface = u.surface) : t.surface = s.surface := by
  obtain rfl | ⟨e, rest, -, -, rfl⟩ := taking_cases h
  · rfl
  · exact hact _ e

/-- The rows that may write a pixel: the write accesses of the port and the engine, the frames, and the resets. -/
def writesSurface : Instr → Bool
  | .portWriteAccessServed | .engineAccessServed | .restart _ | .commandFrameReceived _ _ => true
  | .resetPinAsserted | .resetPinReleased _ _ _ => true
  | _ => false

/-- Every other row leaves the surface as it is. -/
theorem exec_surface_kept {c : Instr} {s t : State} (h : exec c s = .next t) (hc : writesSurface c = false) :
    t.surface = s.surface := by
  cases c with
  | portWriteAccessServed | engineAccessServed | restart | commandFrameReceived | resetPinAsserted | resetPinReleased =>
    cases hc
  | ignoredTransaction kind count => exact happening_surface (f := fun s => s.send _) h rfl
  | readTransaction count =>
    refine happening_surface (f := fun s => s.readOut count) h ?_
    unfold State.readOut
    split
    · rfl
    · split <;> rfl
  | badFrameEntryTaken | unknownCodeTaken | badLengthEntryTaken => exact taking_surface h fun _ _ => rfl
  | readShortfall | readMembers | readStatus | readEvents | flushPending => exact taking_surface h fun _ _ => rfl
  | objectWriteNow => exact taking_surface h fun u e => by unfold State.writeNow; split <;> rfl
  | objectWriteAtFrame =>
    refine taking_surface h fun u e => ?_
    unfold State.writeAtFrame
    split
    · rfl
    · exact queueUpdate_surface ..
  | objectMoveNow =>
    refine taking_surface h fun u e => ?_
    unfold State.moveNow
    split
    · rfl
    · dsimp only
      split <;> rfl
  | objectMoveAtFrame =>
    refine taking_surface h fun u e => ?_
    unfold State.moveAtFrame
    split
    · rfl
    · exact queueUpdate_surface ..
  | objectRead => exact taking_surface h fun u e => by unfold State.readObject; dsimp only; split <;> rfl
  | tintWrite => exact taking_surface h fun u e => by unfold State.writeTint; dsimp only; split <;> rfl
  | paletteWrite => exact taking_surface h fun u e => by unfold State.writePalette; dsimp only; split <;> rfl
  | surfaceWrite => exact taking_surface h fun u e => by unfold State.surfaceWrite; dsimp only; split <;> rfl
  | surfaceRead => exact taking_surface h fun u e => by unfold State.surfaceRead; dsimp only; split <;> rfl
  | portReadAccessServed =>
    obtain rfl | ⟨-, hreads, -, rfl⟩ := accessing_cases h
    · rfl
    · rw [portServed_surface]
      obtain hw | ⟨tag, x, y, pixels, next, ht, -⟩ := portWrites_cases s
      · rw [hw]
      · rw [State.readsPort, ht] at hreads
        cases hreads
  | fill | copy | line | seek | plot | probe => exact taking_surface h fun u e => takeDraw_surface _ e u
  | drawAbort inService => exact happening_surface (f := fun s => s.drawAborted inService) h (engineAborted_surface _)
  | pickAt =>
    refine taking_surface h fun u e => ?_
    unfold State.pickAt
    dsimp only
    split
    · rfl
    · split <;> rfl
  | readPicks => exact taking_surface h fun u e => by unfold State.readPicks; split <;> rfl
  | readCollisions => exact taking_surface h fun u e => by unfold State.readCollisions; dsimp only; split <;> rfl
  | detach => exact taking_surface h fun u e => detach_surface u e
  | rejoin => exact taking_surface h fun u e => rejoin_surface u e
  | lmarkLeadingEdge => exact happening_surface h (leadingEdge_linkFrame s).surface
  | lineMark => exact happening_surface (f := fun s => s.takeMark .line) h (takeMark_surface s .line)
  | frameMark => exact happening_surface (f := fun s => s.takeMark .frame) h (takeMark_surface s .frame)
  | lineTimerRunsOut => exact happening_surface h (timerRunsOut_surface s)
  | silenceCountLimit => exact happening_surface h (silenceReached_linkFrame s).surface
  | frameWord others => exact happening_surface (f := fun s => s.frameWordEnds others) h (frameWordEnds_surface s others)
  | announcePlace others =>
    exact happening_surface (f := fun s => s.announcePlaceEnds others) h (announcePlaceEnds_surface s others)
  | claimRound bids held =>
    exact happening_surface (f := fun s => s.claimRoundEnds bids held) h (claimRoundEnds_surface s bids held)
  | fetchAccessServed =>
    obtain rfl | ⟨-, -, -, rfl⟩ := accessing_cases h
    · rfl
    · exact fetchServed_surface s
  | columnResolved rivals held join =>
    exact happening_surface (f := fun s => s.columnResolved rivals held join) h (columnResolved_surface s rivals held join)
  | picktrigEdge => exact happening_surface h (pickEdge_surface s)

/-! ### The accesses that write a pixel (R132, R139) -/

/-- The port's access is a write access to the pixel. -/
def State.PortWritesAt (s : State) (x y : Nat) : Prop :=
  ∃ tag px py pixels next, s.port.transfer = some (.write tag px py pixels next) ∧ 512 * y + x = 512 * py + (px + next)

/-- The engine's access is a write access to the pixel. -/
def State.EngineWritesAt (s : State) (x y : Nat) : Prop :=
  ∃ e p v, engineCurrent s.engine.mode = some (e, p) ∧
    accessWrite e.cmd p (s.pixel (accessPosition e.cmd p).1 (accessPosition e.cmd p).2) = some v ∧
    512 * y + x = 512 * (accessPosition e.cmd p).2 + (accessPosition e.cmd p).1

/-- Where a pixel differs, the surface does. -/
theorem pixel_congr {s t : State} (h : t.surface = s.surface) (x y : Nat) : t.pixel x y = s.pixel x y := by
  rw [State.pixel, State.pixel, h]

/-- A write access changes no address but its own. -/
theorem address_of_setPixel_ne {s : State} {x y x' y' : Nat} {v : Byte}
    (h : (s.setPixel x' y' v).pixel x y ≠ s.pixel x y) : 512 * y + x = 512 * y' + x' := by
  by_contra hne
  exact h (Memory.read_write_other _ _ _ _ hne)

theorem portWritesAt_of_ne {s : State} {x y : Nat} (h : s.portWrites.pixel x y ≠ s.pixel x y) : s.PortWritesAt x y := by
  obtain hw | ⟨tag, px, py, pixels, next, ht, hw⟩ := portWrites_cases s <;> rw [hw] at h
  · exact absurd rfl h
  · exact ⟨tag, px, py, pixels, next, ht, address_of_setPixel_ne h⟩

theorem engineWritesAt_of_ne {s : State} {x y : Nat} (h : s.engineWrites.pixel x y ≠ s.pixel x y) : s.EngineWritesAt x y := by
  obtain hw | ⟨e, p, v, hc, hv, hw⟩ := engineWrites_cases s <;> rw [hw] at h
  · exact absurd rfl h
  · exact ⟨e, p, v, hc, hv, address_of_setPixel_ne h⟩

/-- What ends whole at a RESTART is the write access of the port or the engine that is being served. -/
theorem finishAccess_ne {s : State} {inService : Option Client} {x y : Nat}
    (h : (s.finishAccess inService).pixel x y ≠ s.pixel x y) :
    (s.serving inService = some .port ∧ s.mayServe .port = true ∧ s.PortWritesAt x y) ∨
      (s.serving inService = some .engine ∧ s.mayServe .engine = true ∧ s.EngineWritesAt x y) := by
  cases hs : s.serving inService with
  | none => rw [finishAccess_none hs] at h; exact absurd rfl h
  | some c =>
    obtain ⟨hm, -⟩ := serving_hold hs
    cases c with
    | fetch => rw [finishAccess_fetch hs] at h; exact absurd rfl h
    | port => rw [finishAccess_port hs] at h; exact .inl ⟨rfl, hm, portWritesAt_of_ne h⟩
    | engine => rw [finishAccess_engine hs] at h; exact .inr ⟨rfl, hm, engineWritesAt_of_ne h⟩

/-- A frame received changes a pixel only as a RESTART, by the access that ends whole. -/
theorem receiveFrame_ne {s : State} {r : Received} {inService : Option Client} {x y : Nat}
    (h : (s.receiveFrame r inService).pixel x y ≠ s.pixel x y) :
    r = .restart ∧ (s.finishAccess inService).pixel x y ≠ s.pixel x y := by
  cases r with
  | abort => exact absurd (pixel_congr (engineAborted_surface (s.hold inService)) x y) h
  | restart => exact ⟨rfl, h⟩
  | entry e => exact absurd (pixel_congr (offerEntry_surface (s.hold inService) e) x y) h

/-- Settles O49: `exec_surface_kept` for the rows that write no pixel, and the access behind each that does. -/
theorem surfaceChangesOnlyByServedWrites : Obligations.SurfaceChangesOnlyByServedWrites := by
  unfold Obligations.SurfaceChangesOnlyByServedWrites
  intro c s t x y h hne
  have hkept : writesSurface c = true := by
    by_contra hw
    exact hne (pixel_congr (exec_surface_kept h (Bool.eq_false_iff.2 hw)) x y)
  cases c with
  | portWriteAccessServed =>
    obtain rfl | ⟨-, -, -, rfl⟩ := accessing_cases h
    · exact absurd rfl hne
    · rw [pixel_congr (portServed_surface s)] at hne
      exact .inl ⟨rfl, portWritesAt_of_ne hne⟩
  | engineAccessServed =>
    obtain rfl | ⟨-, -, -, rfl⟩ := accessing_cases h
    · exact absurd rfl hne
    · rw [pixel_congr (engineServed_surface s)] at hne
      exact .inr (.inl ⟨rfl, engineWritesAt_of_ne hne⟩)
  | restart inService =>
    obtain rfl | ⟨-, -, -, rfl⟩ := accessing_cases (f := fun s => s.restarted inService) h
    · exact absurd rfl hne
    · exact .inr (.inr (.inl ⟨inService, .inl rfl, finishAccess_ne hne⟩))
  | commandFrameReceived bytes inService =>
    obtain rfl | ⟨-, -, -, rfl⟩ := accessing_cases (f := fun s => (s.send _).receiveFrame (receive bytes) inService) h
    · exact absurd rfl hne
    · obtain ⟨hr, hfinish⟩ := receiveFrame_ne (s := s.send (List.replicate bytes.length 0#8)) hne
      exact .inr (.inr (.inl ⟨inService, .inr ⟨bytes, rfl, hr⟩,
        finishAccess_ne (s := s.send (List.replicate bytes.length 0#8)) hfinish⟩))
  | resetPinAsserted => exact .inr (.inr (.inr (.inl rfl)))
  | resetPinReleased station preset video => exact .inr (.inr (.inr (.inr ⟨station, preset, video, rfl⟩)))
  | _ => cases hkept

end Sys2Proof.Machine
end

section
/-! SUPPORT. The pixels of a LINE: how its two coordinates go from the first point to the last. -/

namespace Sys2Proof.Machine

/-! ### One coordinate on its way (R150) -/

theorem span_eq_abs (a b : Nat) : (span a b : Int) = |(b : Int) - a| := by
  rw [span, Int.abs_eq_natAbs]
  omega

theorem toward_zero (a b : Nat) : toward a b 0 = a := ite_self a

theorem toward_span (a b : Nat) : toward a b (span a b) = b := by
  unfold toward span
  split <;> omega

/-- Within the distance, each step goes by the sign of the delta. -/
theorem toward_eq_sign {a b k : Nat} (h : k ≤ span a b) : (toward a b k : Int) = a + ((b : Int) - a).sign * k := by
  unfold span at h
  unfold toward
  rcases Nat.lt_trichotomy a b with hlt | rfl | hgt
  · rw [if_pos hlt.le, Int.sign_eq_one_of_pos (by omega)]
    omega
  · rw [if_pos le_rfl, Int.sub_self, Int.sign_zero]
    omega
  · rw [if_neg hgt.not_ge, Int.sign_eq_neg_one_of_neg (by omega)]
    omega

/-- It stays between its two ends. -/
theorem toward_le {a b k n : Nat} (h : k ≤ span a b) (ha : a ≤ n) (hb : b ≤ n) : toward a b k ≤ n := by
  unfold span at h
  unfold toward
  split <;> omega

/-- It takes no value twice. -/
theorem toward_inj {a b i k : Nat} (hi : i ≤ span a b) (hk : k ≤ span a b) (h : toward a b i = toward a b k) : i = k := by
  unfold span at hi hk
  unfold toward at h
  split at h <;> omega

/-! ### The minor offset (R150) -/

theorem minorOffset_zero (major minor : Nat) : minorOffset major minor 0 = 0 := by
  unfold minorOffset
  split
  · rfl
  · rw [Nat.mul_zero, Nat.zero_mul, Nat.zero_add]
    exact Nat.div_eq_of_lt (by omega)

/-- At the last step the rounded offset is the whole minor extent. -/
theorem minorOffset_last {major minor : Nat} (h : minor ≤ major) : minorOffset major minor major = minor := by
  unfold minorOffset
  split
  · omega
  · rw [Nat.mul_add_div (by omega), Nat.div_eq_of_lt (by omega : major < 2 * major), Nat.add_zero]

/-- The offset does not shrink from step to step. -/
theorem minorOffset_mono {major minor i k : Nat} (h : i ≤ k) : minorOffset major minor i ≤ minorOffset major minor k := by
  unfold minorOffset
  split
  · exact le_rfl
  · gcongr

theorem minorOffset_le {major minor i : Nat} (hm : minor ≤ major) (hi : i ≤ major) : minorOffset major minor i ≤ minor :=
  (minorOffset_mono hi).trans_eq (minorOffset_last hm)

/-- The rounded offset over the integers. -/
theorem minorOffset_cast (major minor i : Nat) : (minorOffset major minor i : Int) =
    if (major : Int) = 0 then 0 else (2 * (i : Int) * minor + major) / (2 * major) := by
  unfold minorOffset
  push_cast
  simp only [Nat.cast_eq_zero]

/-! ### The points of a line (R150) -/

/-- Where the x extent is the major one, x goes one further at each step and y by the offset. -/
theorem linePoint_wide {x0 y0 x1 y1 : Nat} (h : span y0 y1 ≤ span x0 x1) (i : Nat) :
    linePoint x0 y0 x1 y1 i = (toward x0 x1 i, toward y0 y1 (minorOffset (span x0 x1) (span y0 y1) i)) :=
  if_pos h

/-- Where the y extent is the major one, the two coordinates change places. -/
theorem linePoint_steep {x0 y0 x1 y1 : Nat} (h : ¬span y0 y1 ≤ span x0 x1) (i : Nat) :
    linePoint x0 y0 x1 y1 i = (toward x0 x1 (minorOffset (span y0 y1) (span x0 x1) i), toward y0 y1 i) :=
  if_neg h

theorem linePoint_first (x0 y0 x1 y1 : Nat) : linePoint x0 y0 x1 y1 0 = (x0, y0) := by
  by_cases h : span y0 y1 ≤ span x0 x1
  · rw [linePoint_wide h, minorOffset_zero, toward_zero, toward_zero]
  · rw [linePoint_steep h, minorOffset_zero, toward_zero, toward_zero]

theorem linePoint_last (x0 y0 x1 y1 : Nat) : linePoint x0 y0 x1 y1 (max (span x0 x1) (span y0 y1)) = (x1, y1) := by
  by_cases h : span y0 y1 ≤ span x0 x1
  · rw [linePoint_wide h, max_eq_left h, minorOffset_last h, toward_span, toward_span]
  · rw [linePoint_steep h, max_eq_right (le_of_not_ge h), minorOffset_last (le_of_not_ge h), toward_span, toward_span]

/-- Every point lies in the square that holds the two ends. -/
theorem linePoint_le {x0 y0 x1 y1 i n : Nat} (hx0 : x0 ≤ n) (hy0 : y0 ≤ n) (hx1 : x1 ≤ n) (hy1 : y1 ≤ n)
    (hi : i ≤ max (span x0 x1) (span y0 y1)) : (linePoint x0 y0 x1 y1 i).1 ≤ n ∧ (linePoint x0 y0 x1 y1 i).2 ≤ n := by
  by_cases h : span y0 y1 ≤ span x0 x1
  · rw [max_eq_left h] at hi
    rw [linePoint_wide h]
    exact ⟨toward_le hi hx0 hx1, toward_le (minorOffset_le h hi) hy0 hy1⟩
  · rw [max_eq_right (le_of_not_ge h)] at hi
    rw [linePoint_steep h]
    exact ⟨toward_le (minorOffset_le (le_of_not_ge h) hi) hx0 hx1, toward_le hi hy0 hy1⟩

/-- No point comes twice: the major coordinate never does. -/
theorem linePoint_inj {x0 y0 x1 y1 i k : Nat} (hi : i ≤ max (span x0 x1) (span y0 y1))
    (hk : k ≤ max (span x0 x1) (span y0 y1)) (heq : linePoint x0 y0 x1 y1 i = linePoint x0 y0 x1 y1 k) : i = k := by
  by_cases h : span y0 y1 ≤ span x0 x1
  · rw [max_eq_left h] at hi hk
    rw [linePoint_wide h, linePoint_wide h] at heq
    exact toward_inj hi hk (Prod.ext_iff.1 heq).1
  · rw [max_eq_right (le_of_not_ge h)] at hi hk
    rw [linePoint_steep h, linePoint_steep h] at heq
    exact toward_inj hi hk (Prod.ext_iff.1 heq).2

/-- Settles O51: the coordinate of the major extent by `toward`, and the other by `minorOffset`. -/
theorem lineTakesItsPixels : Obligations.LineTakesItsPixels := by
  unfold Obligations.LineTakesItsPixels
  intro op skip sync x0 y0 x1 y1 colour hx0 hy0 hx1 hy1 dx dy major minor d
  have hdx : |dx| = span x0 x1 := (span_eq_abs x0 x1).symm
  have hdy : |dy| = span y0 y1 := (span_eq_abs y0 y1).symm
  have hcount : pixelCount d = max (span x0 x1) (span y0 y1) + 1 := rfl
  have hposition : ∀ p, accessPosition d p = linePoint x0 y0 x1 y1 p.done := fun _ => rfl
  refine ⟨?_, fun p hp => ?_, fun p q hp hq => linePoint_inj (Nat.le_of_lt_succ hp) (Nat.le_of_lt_succ hq)⟩
  · simp only [hcount, major, hdx, hdy]
    push_cast
    rfl
  · replace hp : p.done ≤ max (span x0 x1) (span y0 y1) := Nat.le_of_lt_succ hp
    obtain ⟨hx, hy⟩ := linePoint_le hx0 hy0 hx1 hy1 hp
    intro i offset
    rw [hposition]
    refine ⟨hx, hy, fun h => ?_, fun h => ?_, fun hfirst => ?_, fun hlast => ?_⟩
    · have hwide : span y0 y1 ≤ span x0 x1 := by rw [hdx, hdy] at h; exact Int.ofNat_le.1 h
      have hmajor : major = span x0 x1 := (max_eq_left h).trans hdx
      have hminor : minor = span y0 y1 := (min_eq_right h).trans hdy
      have hoffset : offset = minorOffset (span x0 x1) (span y0 y1) p.done := by
        simp only [offset, hmajor, hminor]
        exact (minorOffset_cast ..).symm
      rw [max_eq_left hwide] at hp
      rw [linePoint_wide hwide, hoffset]
      exact ⟨toward_eq_sign hp, toward_eq_sign (minorOffset_le hwide hp)⟩
    · have hsteep : ¬span y0 y1 ≤ span x0 x1 := by rw [hdx, hdy] at h; exact (Int.ofNat_lt.1 h).not_ge
      have hmajor : major = span y0 y1 := (max_eq_right h.le).trans hdy
      have hminor : minor = span x0 x1 := (min_eq_left h.le).trans hdx
      have hoffset : offset = minorOffset (span y0 y1) (span x0 x1) p.done := by
        simp only [offset, hmajor, hminor]
        exact (minorOffset_cast ..).symm
      rw [max_eq_right (le_of_not_ge hsteep)] at hp
      rw [linePoint_steep hsteep, hoffset]
      exact ⟨toward_eq_sign hp, toward_eq_sign (minorOffset_le (le_of_not_ge hsteep) hp)⟩
    · rw [hfirst, linePoint_first]
    · have hdone : p.done = max (span x0 x1) (span y0 y1) := Nat.succ_injective hlast
      rw [hdone, linePoint_last]

end Sys2Proof.Machine
end

section
/-! SUPPORT. An access of a running draw command, and the accesses of SEEK, PROBE and COPY. -/

namespace Sys2Proof.Machine

/-! ### An access of a running command (R146, R154) -/

/-- An access that writes nothing leaves the surface as it is. -/
theorem accessed_read {s : State} {d : DrawCmd} {p : Progress}
    (h : ∀ old, accessWrite d p old = none) :
    s.accessed d p = { s with arbiter := { portMayHold := false, engineMayHold := false } } := by
  rw [State.accessed, State.surfaceAfter, h]

/-- An access that writes sets its pixel to the value written. -/
theorem accessed_write {s : State} {d : DrawCmd} {p : Progress} {x y : Nat} {value : Byte}
    (hxy : accessPosition d p = (x, y)) (h : accessWrite d p (s.pixel x y) = some value) :
    s.accessed d p = { s with
      surface := Memory.write s.surface (512 * y + x) value
      arbiter := { portMayHold := false, engineMayHold := false } } := by
  rw [State.accessed, State.surfaceAfter, hxy, h]

section Running

variable {s : State} {tag : Byte} {d : DrawCmd} {p after : Progress} {x y : Nat} {queue : List DrawEntry}
  (hp : s.resetPin = false) (hf : s.lines.fetching = false) (ht : s.port.transfer = none)
  (hengine : s.engine = { mode := .running ⟨tag, d⟩ p, queue := queue })
  (hxy : accessPosition d p = (x, y)) (hx : x ≤ 511) (hy : y ≤ 511) (hafter : progressAfter d p (s.pixel x y) = after)

include hp hf ht hengine hxy hx hy hafter

/-- An access of a running command that stands alone at the arbiter is served, and the engine goes on from its progress. -/
theorem exec_runningAccess : exec .engineAccessServed s = .next (
    if hasEnded d after then engineLoad queue ((s.accessed d p).answerDraw ⟨tag, d⟩ .ok (endState d after))
    else { s.accessed d p with engine := { mode := .running ⟨tag, d⟩ after, queue := queue } }) := by
  have hmode : s.engine.mode = .running ⟨tag, d⟩ p := by rw [hengine]
  have hqueue : s.engine.queue = queue := by rw [hengine]
  have hcurrent : engineCurrent s.engine.mode = some (⟨tag, d⟩, p) := by rw [hmode]; rfl
  have hfault : s.engineFault = none := by
    rw [State.engineFault, State.enginePosition, hcurrent, Option.map_some, hxy]
    exact surfaceFault_none hx hy
  rw [exec_engineAccess hp hcurrent hf ht hfault, engineAdvances_running (s := s.accessed d p) hmode, hxy, hafter, ← hqueue]
  rfl

/-- A command with pixels left goes on. -/
theorem exec_access_goesOn (hmore : hasEnded d after = false) : exec .engineAccessServed s =
    .next { s.accessed d p with engine := { mode := .running ⟨tag, d⟩ after, queue := queue } } := by
  rw [exec_runningAccess hp hf ht hengine hxy hx hy hafter, if_neg (Bool.eq_false_iff.1 hmore)]

/-- A command that has ended is answered, and the next is taken. -/
theorem exec_access_ends {skipped tail : List DrawEntry} (hs : SkipsTo skipped tail) (hqueue : queue = skipped ++ tail)
    (hended : hasEnded d after = true) : exec .engineAccessServed s =
    .next (((s.accessed d p).answerDraw ⟨tag, d⟩ .ok (endState d after)).takesNext skipped tail) := by
  rw [exec_runningAccess hp hf ht hengine hxy hx hy hafter, if_pos hended, hqueue, engineLoad_skips hs]

end Running

/-! ### SEEK and COPY (R149, R152) -/

/-- The columns of a SEEK are on the surface. -/
theorem seekColumn_le {left : Bool} {x i : Nat} (hx : x ≤ 511) (hi : i < seekLimit left x) : seekColumn left x i ≤ 511 := by
  cases left with
  | false =>
    have hlimit : i < 512 - x := hi
    show x + i ≤ 511
    omega
  | true => exact (Nat.sub_le x i).trans hx

theorem hasEnded_seek (left differ sync : Bool) (x y : Nat) (value : Byte) (p : Progress) :
    hasEnded (.seek left differ sync x y value) p = true ↔ p.found = true ∨ seekLimit left x ≤ p.done := by
  rw [hasEnded, Bool.or_eq_true, decide_eq_true_iff, pixelCount]

theorem pixelCount_copy (op : DrawOp) (skip left up sync : Bool) (sx sy dx dy w h : Nat) :
    pixelCount (.copy op skip left up sync sx sy dx dy w h) =
      min w (min (512 - sx) (512 - dx)) * min h (min (512 - sy) (512 - dy)) := by
  rw [pixelCount, cutWidth_copy, cutHeight_copy]

/-- The columns and rows of a COPY, in either direction, are those of its cut rectangle. -/
theorem offset_lt {backward : Bool} {n i : Nat} (h : i < n) : (if backward then n - 1 - i else i) < n := by
  split <;> omega

section Copy

variable {op : DrawOp} {skip left up sync : Bool} {sx sy dx dy w h : Nat} {p : Progress}

/-- A COPY with no source in hand reads. -/
theorem accessWrite_copy_read (hsource : p.source = none) (old : Byte) :
    accessWrite (.copy op skip left up sync sx sy dx dy w h) p old = none := by
  rw [accessWrite, hsource, Option.map_none]

/-- The pixel read is skipped where skip-zero meets a source of 0, and is otherwise to be written. -/
theorem progressAfter_copy_read (hsource : p.source = none) (old : Byte) :
    progressAfter (.copy op skip left up sync sx sy dx dy w h) p old =
      if skip = true ∧ old = 0#8 then { p with done := p.done + 1 } else { p with source := some old } := by
  simp only [progressAfter, hsource, Bool.and_eq_true, beq_iff_eq]

/-- A COPY with a source in hand writes the value of the operation. -/
theorem accessWrite_copy_write {source : Byte} (hsource : p.source = some source) (old : Byte) :
    accessWrite (.copy op skip left up sync sx sy dx dy w h) p old = some (op.apply source old) := by
  rw [accessWrite, hsource, Option.map_some]

/-- Its pixel is then processed, and the next is to be read. -/
theorem progressAfter_copy_write {source : Byte} (hsource : p.source = some source) (old : Byte) :
    progressAfter (.copy op skip left up sync sx sy dx dy w h) p old = { p with done := p.done + 1, source := none } := by
  simp only [progressAfter, hsource]

/-- A COPY whose pixels are all processed gives its cut width and height, and its last rows. -/
theorem endState_copy_ended {cw ch last : Nat}
    (hcw : min w (min (512 - sx) (512 - dx)) = cw) (hch : min h (min (512 - sy) (512 - dy)) = ch)
    (hlast : (if up then 0 else ch - 1) = last) (hpos : 0 < cw * ch) (hp : p.done = cw * ch) :
    endState (.copy op skip left up sync sx sy dx dy w h) p =
      byte2 cw ++ byte2 ch ++ byte2 0 ++ byte2 (sy + last) ++ byte2 (dy + last) := by
  have hrow : (cw * ch - 1) / cw = ch - 1 := by
    rw [Nat.mul_sub_div 0 cw ch hpos, Nat.zero_div]
  rw [endState_copy, hcw, hch, hp, if_neg hpos.ne', hrow, Nat.sub_self, hlast,
    Nat.mul_div_cancel_left _ (Nat.pos_of_mul_pos_right hpos), Nat.mul_mod_right]

end Copy

/-- Settles O53: each read by `exec_access_goesOn` or `exec_access_ends`, as the progress after it says. -/
theorem engineReadsForSeekProbeAndCopy : Obligations.EngineReadsForSeekProbeAndCopy := by
  unfold Obligations.EngineReadsForSeekProbeAndCopy
  intro s tag p skipped tail hp hf ht hs queue thenNext free
  refine ⟨fun left differ sync x y value hx hy => ?_, fun sync x y hx hy hengine => ?_,
    fun op skip left up sync sx sy dx dy w h => ?_⟩
  · intro d count column hdone hengine holds
    have hxy : accessPosition d p = (column, y) := rfl
    have hcolumn : column ≤ 511 := seekColumn_le hx hdone
    have hread : s.accessed d p = { s with arbiter := free } := accessed_read fun _ => rfl
    have hafter : progressAfter d p (s.pixel column y) = { p with done := p.done + 1, found := holds } := rfl
    have hended := hasEnded_seek left differ sync x y value { p with done := p.done + 1, found := holds }
    refine ⟨fun hfails hmore => ?_, fun hends => ?_⟩
    · have hgoes : hasEnded d { p with done := p.done + 1, found := holds } = false :=
        Bool.eq_false_iff.2 fun h => (hended.1 h).elim (Bool.eq_false_iff.1 hfails) hmore.not_ge
      rw [exec_access_goesOn hp hf ht hengine hxy hcolumn hy hafter hgoes, hread, hfails]
    · rw [exec_access_ends hp hf ht hengine hxy hcolumn hy hafter hs rfl (hended.2 (hends.imp_right (·.ge))), hread,
        endState, byte1_toNat_bool]
      rfl
  · rw [exec_access_ends hp hf ht hengine rfl hx hy rfl hs rfl rfl, accessed_read fun _ => rfl]
    rfl
  · intro d cw ch column row hfits hdone hengine last ended
    simp only [d, drawFits, Bool.and_eq_true, inAxis_iff, extentFits_iff] at hfits
    have hcw : 0 < cw := Nat.pos_of_mul_pos_right (Nat.zero_lt_of_lt hdone)
    have hcolumn : column < cw := offset_lt (Nat.mod_lt _ hcw)
    have hrow : row < ch := offset_lt (Nat.div_lt_of_lt_mul hdone)
    have hposition : accessPosition d p = if p.source.isSome then (dx + column, dy + row) else (sx + column, sy + row) :=
      copy_position op skip left up sync sx sy dx dy w h p
    have hended : ∀ q : Progress, hasEnded d q = true ↔ cw * ch ≤ q.done := fun q => by
      rw [← pixelCount_copy op skip left up sync sx sy dx dy w h]; exact decide_eq_true_iff
    have hgoes : ∀ q : Progress, q.done < cw * ch → hasEnded d q = false := fun q hq =>
      Bool.eq_false_iff.2 fun h => hq.not_ge ((hended q).1 h)
    have hend : ∀ q : Progress, q.done = cw * ch → endState d q = ended.payload := fun q =>
      endState_copy_ended rfl rfl rfl (Nat.zero_lt_of_lt hdone)
    have hread : p.source = none → accessPosition d p = (sx + column, sy + row) ∧ s.accessed d p = { s with arbiter := free } :=
      fun hsource => ⟨by rw [hposition, hsource]; rfl, accessed_read (accessWrite_copy_read hsource)⟩
    refine ⟨fun hsource hkeep => ?_, fun hsource hskip hzero => ?_, fun source hsource => ?_⟩
    · obtain ⟨hxy, haccessed⟩ := hread hsource
      have hafter : progressAfter d p _ = _ := (progressAfter_copy_read hsource _).trans (if_neg hkeep)
      rw [exec_access_goesOn hp hf ht hengine hxy (by omega) (by omega) hafter (hgoes _ hdone), haccessed]
    · obtain ⟨hxy, haccessed⟩ := hread hsource
      have hafter : progressAfter d p _ = _ := (progressAfter_copy_read hsource _).trans (if_pos ⟨hskip, hzero⟩)
      refine ⟨fun hmore => ?_, fun hlast => ?_⟩
      · rw [exec_access_goesOn hp hf ht hengine hxy (by omega) (by omega) hafter (hgoes _ hmore), haccessed]
      · rw [exec_access_ends hp hf ht hengine hxy (by omega) (by omega) hafter hs rfl ((hended _).2 hlast.ge), haccessed,
          hend _ hlast]
        rfl
    · have hxy : accessPosition d p = (dx + column, dy + row) := by rw [hposition, hsource]; rfl
      have hwritten : s.accessed d p = _ := accessed_write hxy (accessWrite_copy_write hsource _)
      have hafter : progressAfter d p _ = _ := progressAfter_copy_write hsource (s.pixel (dx + column) (dy + row))
      refine ⟨fun hmore => ?_, fun hlast => ?_⟩
      · rw [exec_access_goesOn hp hf ht hengine hxy (by omega) (by omega) hafter (hgoes _ hmore), hwritten]
      · rw [exec_access_ends hp hf ht hengine hxy (by omega) (by omega) hafter hs rfl ((hended _).2 hlast.ge), hwritten,
          hend _ hlast]
        rfl

end Sys2Proof.Machine
end

section
/-! SUPPORT. A command of one colour served to its end: each pixel it names takes the operation's value once. -/

namespace Sys2Proof.Machine

/-! ### The pixels of a command (R147) -/

/-- The progress of a command of one colour with `n` pixels processed. -/
def Progress.through (n : Nat) : Progress := { Progress.none with done := n }

/-- From its pixel `k` on, a command has its access at (i, j). -/
def DrawCmd.CoversFrom (d : DrawCmd) (k i j : Nat) : Prop :=
  ∃ n, k ≤ n ∧ n < pixelCount d ∧ accessPosition d (.through n) = (i, j)

/-- The pixels from `k` on are the pixel `k` and those after it. -/
theorem DrawCmd.coversFrom_iff {d : DrawCmd} {k i j : Nat} (hk : k < pixelCount d) :
    d.CoversFrom k i j ↔ accessPosition d (.through k) = (i, j) ∨ d.CoversFrom (k + 1) i j := by
  constructor
  · rintro ⟨n, hkn, hn, hposition⟩
    obtain rfl | hlt := hkn.eq_or_lt
    · exact .inl hposition
    · exact .inr ⟨n, hlt, hn, hposition⟩
  · rintro (hposition | ⟨n, hkn, hn, hposition⟩)
    · exact ⟨k, le_rfl, hk, hposition⟩
    · exact ⟨n, Nat.le_of_succ_le hkn, hn, hposition⟩

/-- A command's pixels are on the surface, and none comes twice. -/
structure DrawCmd.PixelsApart (d : DrawCmd) : Prop where
  inside : ∀ n, n < pixelCount d → (accessPosition d (.through n)).1 ≤ 511 ∧ (accessPosition d (.through n)).2 ≤ 511
  apart : ∀ m n, m < pixelCount d → n < pixelCount d →
    accessPosition d (.through m) = accessPosition d (.through n) → m = n

/-! ### What it leaves of the surface (R148) -/

/-- Of the surface of `s`, `t` has the pixels of `d` from `k` on painted, and every other as it was. -/
def State.Painted (s t : State) (d : DrawCmd) (op : DrawOp) (colour : Byte) (k : Nat) : Prop :=
  ∀ i j, i ≤ 511 → j ≤ 511 → (d.CoversFrom k i j → t.pixel i j = op.apply colour (s.pixel i j)) ∧
    (¬d.CoversFrom k i j → t.pixel i j = s.pixel i j)

/-- Past its last pixel a command paints nothing. -/
theorem painted_past_end {s t : State} (h : t.surface = s.surface) (d : DrawCmd) (op : DrawOp) (colour : Byte) :
    s.Painted t d op colour (pixelCount d) :=
  fun i j _ _ => ⟨fun ⟨_, hkn, hn, _⟩ => absurd hn hkn.not_gt, fun _ => pixel_congr h i j⟩

/-- The access of a command of one colour writes the value of the operation at its pixel. -/
theorem accessed_surface {s : State} {d : DrawCmd} {op : DrawOp} {colour : Byte} {p : Progress} {x y : Nat}
    (hpaints : d.Paints op colour) (hxy : accessPosition d p = (x, y)) :
    (s.accessed d p).surface = Memory.write s.surface (512 * y + x) (op.apply colour (s.pixel x y)) := by
  rw [accessed_write hxy (hpaints.access p _).1]

/-- With the pixel `k` painted, those after it are painted as from `s`: none of them is that pixel again. -/
theorem painted_of_accessed {s u t : State} {d : DrawCmd} {op : DrawOp} {colour : Byte} {k : Nat} (hpaints : d.Paints op colour)
    (hs : Memory.wf s.surface = true) (hd : d.PixelsApart) (hk : k < pixelCount d)
    (hu : u.surface = (s.accessed d (.through k)).surface) (ht : u.Painted t d op colour (k + 1)) :
    s.Painted t d op colour k := by
  obtain ⟨⟨x, y⟩, hxy⟩ : ∃ xy, accessPosition d (.through k) = xy := ⟨_, rfl⟩
  have hx : x ≤ 511 := by have := (hd.inside k hk).1; rwa [hxy] at this
  have hlater : ∀ i j, d.CoversFrom (k + 1) i j → (x, y) ≠ (i, j) := fun i j ⟨n, hkn, hn, hposition⟩ heq =>
    (Nat.lt_of_succ_le hkn).ne (hd.apart k n hk hn (hxy.trans (heq.trans hposition.symm)))
  have hpixel : ∀ i j, u.pixel i j = if 512 * j + i = 512 * y + x then op.apply colour (s.pixel x y) else s.pixel i j :=
    fun i j => by
      rw [← pixel_write s i j _ _ hs, ← accessed_surface hpaints hxy, ← hu]
      rfl
  have hother : ∀ i j, i ≤ 511 → (x, y) ≠ (i, j) → u.pixel i j = s.pixel i j := fun i j hi hne => by
    rw [hpixel, if_neg fun h => hne (by ext <;> dsimp only <;> omega)]
  intro i j hi hj
  obtain ⟨hcovered, hkept⟩ := ht i j hi hj
  rw [DrawCmd.coversFrom_iff hk, hxy]
  refine ⟨?_, fun hnot => ?_⟩
  · rintro (heq | hcovers)
    · obtain ⟨rfl, rfl⟩ := Prod.ext_iff.1 heq
      rw [hkept fun h => hlater _ _ h rfl, hpixel, if_pos rfl]
    · rw [hcovered hcovers, hother i j hi (hlater i j hcovers)]
  · rw [hkept fun h => hnot (.inr h), hother i j hi fun h => hnot (.inl h)]

theorem accessed_wf {s : State} {d : DrawCmd} {op : DrawOp} {colour : Byte} (hpaints : d.Paints op colour)
    (hs : Memory.wf s.surface = true) (p : Progress) : Memory.wf (s.accessed d p).surface = true := by
  rw [accessed_surface hpaints rfl]
  exact Memory.wf_write _ _ _ hs

/-! ### The accesses one after another (R148, R154) -/

theorem serveEngine_next {n : Nat} {s t : State} (h : exec .engineAccessServed s = .next t) :
    serveEngine (n + 1) s = serveEngine n t := by
  rw [serveEngine, h]

/-- Each access of a command of one colour processes one pixel more. -/
theorem DrawCmd.Paints.progressAfter_through {d : DrawCmd} {op : DrawOp} {colour : Byte} (hpaints : d.Paints op colour) (k : Nat)
    (old : Byte) : progressAfter d (.through k) old = .through (k + 1) :=
  (hpaints.access (.through k) old).2

theorem DrawCmd.Paints.hasEnded_through {d : DrawCmd} {op : DrawOp} {colour : Byte} (hpaints : d.Paints op colour) (k : Nat) :
    hasEnded d (.through k) = true ↔ pixelCount d ≤ k :=
  hpaints.hasEnded_iff (.through k)

/-- A command of one colour is served from its pixel `k` to its end by as many accesses as it has pixels left. -/
theorem serveEngine_paints {tag : Byte} {d : DrawCmd} {op : DrawOp} {colour : Byte} (hpaints : d.Paints op colour)
    (hd : d.PixelsApart) {n k : Nat} {s : State} (hk : k + (n + 1) = pixelCount d) (hp : s.resetPin = false)
    (hf : s.lines.fetching = false) (ht : s.port.transfer = none) (hs : Memory.wf s.surface = true)
    (hengine : s.engine = { mode := .running ⟨tag, d⟩ (.through k), queue := [] }) :
    ∃ t, serveEngine (n + 1) s = some t ∧ t.engine = { mode := .idle, queue := [] } ∧
      t.port = { s.port with responses := s.port.responses ++
        [⟨tag, drawCode d, .ok, endState d (.through (pixelCount d))⟩] } ∧
      s.Painted t d op colour k := by
  induction n generalizing k s with
  | zero =>
    have hlt : k < pixelCount d := by omega
    obtain ⟨hx, hy⟩ := hd.inside k hlt
    have hexec := exec_runningAccess hp hf ht hengine rfl hx hy (hpaints.progressAfter_through k _)
    rw [if_pos ((hpaints.hasEnded_through _).2 hk.ge)] at hexec
    replace hk : k + 1 = pixelCount d := hk
    refine ⟨_, serveEngine_next hexec, rfl, ?_, painted_of_accessed hpaints hs hd hlt rfl ?_⟩
    · rw [← hk]
      rfl
    · rw [hk]
      exact painted_past_end rfl d op colour
  | succ n ih =>
    have hlt : k < pixelCount d := by omega
    have hmore : ¬pixelCount d ≤ k + 1 := by omega
    obtain ⟨hx, hy⟩ := hd.inside k hlt
    have hexec := exec_access_goesOn hp hf ht hengine rfl hx hy (hpaints.progressAfter_through k _)
      (Bool.eq_false_iff.2 ((hpaints.hasEnded_through _).not.2 hmore))
    obtain ⟨t, hserved, hidle, hport, hpainted⟩ := ih (k := k + 1)
      (s := { s.accessed d (.through k) with engine := { mode := .running ⟨tag, d⟩ (.through (k + 1)), queue := [] } })
      (by omega) hp hf ht (accessed_wf hpaints hs (.through k)) rfl
    exact ⟨t, (serveEngine_next hexec).trans hserved, hidle, hport, painted_of_accessed hpaints hs hd hlt rfl hpainted⟩

/-! ### FILL (R147, R148) -/

section Fill

variable {op : DrawOp} {skip sync : Bool} {x y w h : Nat} {colour : Byte}

/-- The pixels of a FILL go row after row through its cut rectangle. -/
theorem fill_position (n : Nat) : accessPosition (.fill op skip sync x y w h colour) (.through n) =
    (x + n % min w (512 - x), y + n / min w (512 - x)) := rfl

theorem fill_pixelsApart (hx : x ≤ 511) (hw : 1 ≤ w) :
    (DrawCmd.fill op skip sync x y w h colour).PixelsApart where
  inside n hn := by
    have hcolumn : n % min w (512 - x) < min w (512 - x) := Nat.mod_lt _ (by omega)
    have hrow : n / min w (512 - x) < min h (512 - y) := Nat.div_lt_of_lt_mul hn
    rw [fill_position]
    exact ⟨Nat.le_of_lt_succ (Nat.add_lt_of_lt_sub' (lt_min_iff.1 hcolumn).2),
      Nat.le_of_lt_succ (Nat.add_lt_of_lt_sub' (lt_min_iff.1 hrow).2)⟩
  apart m n _ _ heq := by
    rw [fill_position, fill_position, Prod.mk.injEq, Nat.add_right_inj, Nat.add_right_inj] at heq
    rw [← Nat.div_add_mod m (min w (512 - x)), ← Nat.div_add_mod n (min w (512 - x)), heq.1, heq.2]

/-- A FILL covers its cut rectangle. -/
theorem fill_covers_iff (hx : x ≤ 511) (hw : 1 ≤ w) (i j : Nat) :
    (DrawCmd.fill op skip sync x y w h colour).CoversFrom 0 i j ↔
      x ≤ i ∧ i < x + min w (512 - x) ∧ y ≤ j ∧ j < y + min h (512 - y) := by
  have hcw : 0 < min w (512 - x) := by omega
  constructor
  · rintro ⟨n, -, hn, hposition⟩
    have hcolumn : n % min w (512 - x) < min w (512 - x) := Nat.mod_lt _ hcw
    have hrow : n / min w (512 - x) < min h (512 - y) := Nat.div_lt_of_lt_mul hn
    obtain ⟨rfl, rfl⟩ := Prod.mk.inj hposition
    exact ⟨Nat.le_add_right .., Nat.add_lt_add_left hcolumn x, Nat.le_add_right .., Nat.add_lt_add_left hrow y⟩
  · rintro ⟨hi, hi', hj, hj'⟩
    obtain ⟨column, rfl⟩ := Nat.exists_eq_add_of_le hi
    obtain ⟨row, rfl⟩ := Nat.exists_eq_add_of_le hj
    have hcolumn : column < min w (512 - x) := by omega
    have hrow : row + 1 ≤ min h (512 - y) := by omega
    refine ⟨min w (512 - x) * row + column, Nat.zero_le _, ?_, ?_⟩
    · calc min w (512 - x) * row + column < min w (512 - x) * (row + 1) := by rw [Nat.mul_succ]; omega
        _ ≤ min w (512 - x) * min h (512 - y) := Nat.mul_le_mul_left _ hrow
    · rw [fill_position, Nat.mul_add_mod, Nat.mod_eq_of_lt hcolumn, Nat.mul_add_div hcw, Nat.div_eq_of_lt hcolumn,
        Nat.add_zero]

end Fill

/-- Settles O54: a FILL is a command of one colour, and covers its cut rectangle. -/
theorem fillFillsItsCutRectangle : Obligations.FillFillsItsCutRectangle := by
  unfold Obligations.FillFillsItsCutRectangle
  intro s tag op skip sync x y w h colour hp hf ht hs hx hy hw _ hh _ _ hengine cw ch
  have hpaints : (DrawCmd.fill op skip sync x y w h colour).Paints op colour := .inl ⟨skip, sync, x, y, w, h, rfl⟩
  have hcw : 1 ≤ cw := le_min hw (by omega)
  have hch : 1 ≤ ch := le_min hh (by omega)
  obtain ⟨n, hn⟩ : ∃ n, cw * ch = n + 1 := Nat.exists_eq_succ_of_ne_zero (Nat.mul_pos hcw hch).ne'
  obtain ⟨t, hserved, hidle, hport, hpainted⟩ := serveEngine_paints hpaints (fill_pixelsApart hx hw)
    (k := 0) ((Nat.zero_add _).trans hn.symm) hp hf ht hs hengine
  refine ⟨t, hn ▸ hserved, hidle, ?_, fun i j hi hj => ?_⟩
  · rw [hport, endState_fill_ended hcw rfl]
    rfl
  · obtain ⟨hcovered, hkept⟩ := hpainted i j hi hj
    rw [fill_covers_iff hx hw] at hcovered hkept
    split
    · rename_i hin
      exact hcovered hin
    · rename_i hout
      exact hkept hout

end Sys2Proof.Machine
end

section
/-! SUPPORT. Draw commands taken from the Command Queue: the checks of their payloads, and how the engine accepts them. -/

namespace Sys2Proof.Machine

/-! ### The mode byte (Table 9-2) -/

/-- The checks of a mode byte, over the number it holds. -/
theorem mode_checks : ∀ m : Byte,
    ((drawOpOf (m.extractLsb' 0 3).toNat).isSome = true ↔ m.toNat % 8 ≤ 4) ∧
      (m &&& 0x70#8 = 0#8 ↔ m.toNat / 16 % 8 = 0) ∧ (m &&& 0x40#8 = 0#8 ↔ m.toNat / 64 % 2 = 0) ∧
      (m &&& 0x4F#8 = 0#8 ↔ m.toNat % 16 = 0 ∧ m.toNat / 64 % 2 = 0) ∧ (m &&& 0x7F#8 = 0#8 ↔ m.toNat % 128 = 0) := by
  decide

/-- A mode byte that passes its check is put together from its own fields. -/
theorem mode_fields : ∀ m : Byte,
    (m &&& 0x70#8 = 0#8 → modeByte (m.extractLsb' 0 3).toNat (m.getLsbD 3) false false (m.getLsbD 7) = m) ∧
      (m &&& 0x40#8 = 0#8 →
        modeByte (m.extractLsb' 0 3).toNat (m.getLsbD 3) (m.getLsbD 4) (m.getLsbD 5) (m.getLsbD 7) = m) ∧
      (m &&& 0x4F#8 = 0#8 → modeByte 0 false (m.getLsbD 4) (m.getLsbD 5) (m.getLsbD 7) = m) ∧
      (m &&& 0x7F#8 = 0#8 → modeByte 0 false false false (m.getLsbD 7) = m) := by
  decide

/-- The operation a field names has that field. -/
theorem drawOpCode_of_drawOpOf {n : Nat} {op : DrawOp} (h : drawOpOf n = some op) : drawOpCode op = n := by
  unfold drawOpOf at h
  split at h <;> cases h <;> rfl

/-! ### The checks of a payload (R145) -/

theorem inAxis_iff_le {n : Nat} : inAxis n = true ↔ n ≤ 511 := inAxis_iff.trans Nat.lt_succ_iff

theorem readDraw_eq_some {c : Command} {p : List Byte} {d : DrawCmd} :
    readDraw c p = some d ↔ drawSpelled c p = some d ∧ drawFits d = true := by
  unfold readDraw
  split
  · rename_i d' h
    rw [h, Option.some.injEq]
    constructor
    · intro hread
      split at hread
      · rename_i hfits
        cases hread
        exact ⟨rfl, hfits⟩
      · cases hread
    · rintro ⟨rfl, hfits⟩
      exact if_pos hfits
  · rename_i h
    simp [h]

/-- A payload is accepted where its operation is one, the bits that must be 0 are, and its numbers fit. -/
theorem readDraw_isSome_iff {c : Command} {p : List Byte} {clear fits : Prop} [Decidable clear] {op : Option DrawOp}
    {build : DrawOp → DrawCmd} (hspelled : drawSpelled c p = if clear then op.map build else none)
    (hfits : ∀ o, drawFits (build o) = true ↔ fits) : (readDraw c p).isSome = true ↔ op.isSome = true ∧ clear ∧ fits := by
  simp only [Option.isSome_iff_exists, readDraw_eq_some, hspelled, Option.ite_none_right_eq_some, Option.map_eq_some_iff]
  constructor
  · rintro ⟨_, ⟨hclear, o, ho, rfl⟩, hd⟩
    exact ⟨⟨o, ho⟩, hclear, (hfits o).1 hd⟩
  · rintro ⟨⟨o, ho⟩, hclear, hf⟩
    exact ⟨build o, ⟨hclear, o, ho, rfl⟩, (hfits o).2 hf⟩

/-! Each command by `readDraw_isSome_iff`: the checks of its mode byte, and the ranges that `drawFits` gives its numbers. -/

section Checks

variable (p : List Byte)

theorem readDraw_fill_iff : (readDraw .fill p).isSome = true ↔ byteAt p 0 % 8 ≤ 4 ∧ byteAt p 0 / 16 % 8 = 0 ∧
    wordAt p 1 ≤ 511 ∧ wordAt p 3 ≤ 511 ∧ 1 ≤ wordAt p 5 ∧ wordAt p 5 ≤ 512 ∧ 1 ≤ wordAt p 7 ∧ wordAt p 7 ≤ 512 := by
  obtain ⟨hop, hmask, -⟩ := mode_checks (p.getD 0 0#8)
  rw [readDraw_isSome_iff rfl fun _ => by rw [drawFits], hop, hmask]
  simp only [Bool.and_eq_true, inAxis_iff_le, extentFits_iff, and_assoc]
  rfl

theorem readDraw_copy_iff : (readDraw .copy p).isSome = true ↔ byteAt p 0 % 8 ≤ 4 ∧ byteAt p 0 / 64 % 2 = 0 ∧
    wordAt p 1 ≤ 511 ∧ wordAt p 3 ≤ 511 ∧ wordAt p 5 ≤ 511 ∧ wordAt p 7 ≤ 511 ∧
    1 ≤ wordAt p 9 ∧ wordAt p 9 ≤ 512 ∧ 1 ≤ wordAt p 11 ∧ wordAt p 11 ≤ 512 := by
  obtain ⟨hop, -, hmask, -⟩ := mode_checks (p.getD 0 0#8)
  rw [readDraw_isSome_iff rfl fun _ => by rw [drawFits], hop, hmask]
  simp only [Bool.and_eq_true, inAxis_iff_le, extentFits_iff, and_assoc]
  rfl

theorem readDraw_line_iff : (readDraw .line p).isSome = true ↔ byteAt p 0 % 8 ≤ 4 ∧ byteAt p 0 / 16 % 8 = 0 ∧
    wordAt p 1 ≤ 511 ∧ wordAt p 3 ≤ 511 ∧ wordAt p 5 ≤ 511 ∧ wordAt p 7 ≤ 511 := by
  obtain ⟨hop, hmask, -⟩ := mode_checks (p.getD 0 0#8)
  rw [readDraw_isSome_iff rfl fun _ => by rw [drawFits], hop, hmask]
  simp only [Bool.and_eq_true, inAxis_iff_le, and_assoc]
  rfl

theorem readDraw_plot_iff : (readDraw .plot p).isSome = true ↔ byteAt p 0 % 8 ≤ 4 ∧ byteAt p 0 / 16 % 8 = 0 ∧
    wordAt p 1 ≤ 511 ∧ wordAt p 3 ≤ 511 := by
  obtain ⟨hop, hmask, -⟩ := mode_checks (p.getD 0 0#8)
  rw [readDraw_isSome_iff rfl fun _ => by rw [drawFits], hop, hmask]
  simp only [Bool.and_eq_true, inAxis_iff_le]
  rfl

/-- A SEEK has no operation field: any one stands for it. -/
theorem readDraw_seek_iff : (readDraw .seek p).isSome = true ↔ byteAt p 0 % 16 = 0 ∧ byteAt p 0 / 64 % 2 = 0 ∧
    wordAt p 1 ≤ 511 ∧ wordAt p 3 ≤ 511 := by
  obtain ⟨-, -, -, hmask, -⟩ := mode_checks (p.getD 0 0#8)
  rw [readDraw_isSome_iff (op := some .set) (build := fun _ => .seek ..) rfl fun _ => by rw [drawFits], hmask]
  simp only [Bool.and_eq_true, inAxis_iff_le, and_assoc, Option.isSome_some, true_and]
  rfl

theorem readDraw_probe_iff : (readDraw .probe p).isSome = true ↔ byteAt p 0 % 128 = 0 ∧ wordAt p 1 ≤ 511 ∧ wordAt p 3 ≤ 511 := by
  obtain ⟨-, -, -, -, hmask⟩ := mode_checks (p.getD 0 0#8)
  rw [readDraw_isSome_iff (op := some .set) (build := fun _ => .probe ..) rfl fun _ => by rw [drawFits], hmask]
  simp only [Bool.and_eq_true, inAxis_iff_le, Option.isSome_some, true_and]
  rfl

end Checks

/-! ### What is accepted is what the payload spells (Table 9-1) -/

/-- The two bytes of a number that two bytes of a payload carry are those bytes. -/
theorem byte2_wordAt (p : List Byte) (i : Nat) : byte2 (wordAt p i) = [p.getD i 0#8, p.getD (i + 1) 0#8] := by
  have hlow := (p.getD i 0#8).isLt
  have hhigh := (p.getD (i + 1) 0#8).isLt
  unfold byte2 wordAt byteAt
  congr 1
  · apply BitVec.eq_of_toNat_eq
    rw [BitVec.toNat_ofNat]
    omega
  · congr 1
    apply BitVec.eq_of_toNat_eq
    rw [BitVec.toNat_ofNat]
    omega

/-- A payload is the list of the bytes it has. -/
theorem eq_map_getD {p : List Byte} {n : Nat} (h : p.length = n) : p = (List.range n).map fun i => p.getD i 0#8 := by
  subst h
  refine List.ext_getElem (by simp) fun i hi _ => ?_
  simp [hi]

/-- The command that a row's payload spells has that payload, and the row's command and code. -/
theorem spelled_of_row : ∀ row ∈ drawRows, ∀ (p : List Byte) (d : DrawCmd), p.length = row.2.2.2 →
    drawSpelled row.2.1 p = some d → drawPayload d = p ∧ drawCommand d = row.2.1 ∧ drawCode d = row.2.2.1 := by
  simp only [drawRows, List.forall_mem_cons, List.not_mem_nil, false_implies, implies_true, and_true]
  refine ⟨fun p d hl h => ?_, fun p d hl h => ?_, fun p d hl h => ?_, fun p d hl h => ?_, fun p d hl h => ?_,
    fun p d hl h => ?_⟩
  all_goals
    obtain ⟨hsolid, hcopy, hseek, hprobe⟩ := mode_fields (p.getD 0 0#8)
    simp only [drawSpelled, Option.ite_none_right_eq_some, Option.map_eq_some_iff] at h
  · obtain ⟨hclear, op, hop, rfl⟩ := h
    refine ⟨?_, rfl, rfl⟩
    rw [drawPayload, drawOpCode_of_drawOpOf hop, hsolid hclear]
    simp only [byte2_wordAt]
    exact (eq_map_getD hl).symm
  · obtain ⟨hclear, op, hop, rfl⟩ := h
    refine ⟨?_, rfl, rfl⟩
    rw [drawPayload, drawOpCode_of_drawOpOf hop, hcopy hclear]
    simp only [byte2_wordAt]
    exact (eq_map_getD hl).symm
  · obtain ⟨hclear, op, hop, rfl⟩ := h
    refine ⟨?_, rfl, rfl⟩
    rw [drawPayload, drawOpCode_of_drawOpOf hop, hsolid hclear]
    simp only [byte2_wordAt]
    exact (eq_map_getD hl).symm
  · obtain ⟨hclear, hd⟩ := h
    cases hd
    refine ⟨?_, rfl, rfl⟩
    rw [drawPayload, hseek hclear]
    simp only [byte2_wordAt]
    exact (eq_map_getD hl).symm
  · obtain ⟨hclear, op, hop, rfl⟩ := h
    refine ⟨?_, rfl, rfl⟩
    rw [drawPayload, drawOpCode_of_drawOpOf hop, hsolid hclear]
    simp only [byte2_wordAt]
    exact (eq_map_getD hl).symm
  · obtain ⟨hclear, hd⟩ := h
    cases hd
    refine ⟨?_, rfl, rfl⟩
    rw [drawPayload, hprobe hclear]
    simp only [byte2_wordAt]
    exact (eq_map_getD hl).symm

/-! ### The command accepted (R142, R143, R146) -/

/-- The row of a draw command takes the entries of its code and length, and checks their payloads. -/
theorem exec_drawRow : ∀ row ∈ drawRows, ∀ {s : State} {tag : Byte} {payload : List Byte} {rest : List Entry},
    payload.length = row.2.2.2 → s.Takes (.ordinary row.2.2.1 tag payload) rest →
    exec row.1 s = .next ((s.without rest).takeDraw row.2.1 (.ordinary row.2.2.1 tag payload)) := by
  simp only [drawRows, List.forall_mem_cons, List.not_mem_nil, false_implies, implies_true, and_true]
  and_intros
  all_goals
    intro s tag payload rest hl htakes
    exact taking_ordinary htakes rfl (by rw [hl]; rfl) _

theorem takeDraw_refused {c : Command} {e : Entry} (h : readDraw c e.payload = none) (s : State) :
    s.takeDraw c e = s.answer e .badField [] := by
  simp only [State.takeDraw, h]

theorem takeDraw_accepted {c : Command} {e : Entry} {d : DrawCmd} (h : readDraw c e.payload = some d) (s : State) :
    s.takeDraw c e = s.acceptDraw ⟨e.tag, d⟩ := by
  simp only [State.takeDraw, h]

/-- An engine with a command in hand leaves the new one in the Draw Queue. -/
theorem acceptDraw_busy {s : State} (h : s.engine.mode ≠ .idle) (e : DrawEntry) :
    s.acceptDraw e = { s with engine := { s.engine with queue := s.engine.queue ++ [e] } } := by
  unfold State.acceptDraw
  split
  · rename_i hidle
    exact absurd hidle h
  all_goals rfl

/-- An IDLE engine takes the new command. -/
theorem acceptDraw_idle {s : State} (h : s.engine = { mode := .idle, queue := [] }) (e : DrawEntry) :
    s.acceptDraw e = engineLoad [e] s := by
  simp only [State.acceptDraw, h, List.nil_append]

/-- A command that neither waits nor presents an access is answered, and the engine is IDLE again. -/
theorem engineLoad_ends {e : DrawEntry} (hs : drawSync e.cmd = false) (hn : presentsNothing e.cmd = true) (s : State) :
    engineLoad [e] s = { s with
      port := { s.port with responses := s.port.responses ++ [e.endedResponse] }
      engine := { mode := .idle, queue := [] } } :=
  engineLoad_skips (skipped := [e]) (tail := []) ⟨by simp [hs, hn], nofun⟩ s

/-- Settles O50: the checks by `readDraw_isSome_iff`, and the engine's choice by `engineLoad`. -/
theorem drawCommandIsAccepted : Obligations.DrawCommandIsAccepted := by
  unfold Obligations.DrawCommandIsAccepted
  refine ⟨fun d => ?_, fun sync => ⟨fun _ _ _ _ _ _ _ => rfl, fun _ _ _ _ _ _ _ _ _ _ => rfl, fun _ _ _ _ _ _ _ => rfl,
      fun _ _ _ _ _ => rfl, fun _ _ _ _ _ => rfl, fun _ _ => rfl⟩,
    fun p => ⟨fun _ => readDraw_fill_iff p, fun _ => readDraw_copy_iff p, fun _ => readDraw_line_iff p,
      fun _ => readDraw_seek_iff p, fun _ => readDraw_plot_iff p, fun _ => readDraw_probe_iff p,
      fun row hrow d hl hread => ?_⟩,
    fun row hrow s tag payload rest hl htakes => ?_⟩
  · cases d <;> simp [presentsNothing]
  · obtain ⟨hspelled, hfits⟩ := readDraw_eq_some.1 hread
    obtain ⟨hpayload, hcommand, -⟩ := spelled_of_row row hrow p d hl hspelled
    exact ⟨hpayload, hcommand, hfits⟩
  · rw [exec_drawRow row hrow hl htakes]
    refine ⟨fun hrefused => congrArg Host.Outcome.next (takeDraw_refused hrefused _), fun d hread => ?_⟩
    rw [takeDraw_accepted hread]
    refine ⟨fun hbusy => congrArg Host.Outcome.next (acceptDraw_busy (s := s.without rest) hbusy _), fun hidle hsync => ?_,
      fun hidle hsync hn => ?_, fun hidle hsync hn => ?_⟩
    · rw [acceptDraw_idle (s := s.without rest) hidle, engineLoad_waits hsync]
      rfl
    · rw [acceptDraw_idle (s := s.without rest) hidle, engineLoad_runs hsync hn]
      rfl
    · obtain ⟨-, -, hcode⟩ := spelled_of_row row hrow payload d hl (readDraw_eq_some.1 hread).1
      rw [acceptDraw_idle (s := s.without rest) hidle, engineLoad_ends hsync hn, ← hidle]
      rw [DrawEntry.endedResponse, hcode]
      rfl

end Sys2Proof.Machine
end

section
/-! SUPPORT. The head of the Command Queue: the codes and lengths of the catalogue, and the head that waits or is answered. -/

namespace Sys2Proof.Machine

/-! ### The catalogue (Table 10-6) -/

/-- The codes of Table 10-6. -/
def catalogue : List (Byte × Command) :=
  [(0x10#8, .objectWrite), (0x11#8, .objectMove), (0x12#8, .objectRead), (0x13#8, .flushPending), (0x14#8, .tintWrite),
    (0x20#8, .surfaceWrite), (0x21#8, .surfaceRead), (0x30#8, .fill), (0x31#8, .copy), (0x32#8, .line), (0x33#8, .seek),
    (0x34#8, .plot), (0x35#8, .probe), (0x3F#8, .drawAbort), (0x40#8, .paletteWrite), (0x50#8, .pickAt), (0x51#8, .readPicks),
    (0x58#8, .readCollisions), (0x60#8, .readShortfall), (0x61#8, .readMembers), (0x62#8, .detach), (0x63#8, .rejoin),
    (0x70#8, .readStatus), (0x71#8, .readEvents), (0x7F#8, .restart)]

theorem commandOf_eq_some_iff (code : Byte) (c : Command) : commandOf code = some c ↔ (code, c) ∈ catalogue := by
  have hnamed : ∀ code : Byte, (commandOf code).all (fun c => decide ((code, c) ∈ catalogue)) = true := by decide
  have hlisted : ∀ entry ∈ catalogue, commandOf entry.1 = some entry.2 := by decide
  refine ⟨fun h => ?_, hlisted (code, c)⟩
  have hcode := hnamed code
  rw [h, Option.all_some] at hcode
  exact of_decide_eq_true hcode

/-- A PALETTE WRITE has its start and 1 to 32 entries of three bytes (R101). -/
theorem commandAllows_paletteWrite_iff (n : Nat) :
    commandAllows .paletteWrite n = true ↔ ∃ k, 1 ≤ k ∧ k ≤ 32 ∧ n = 1 + 3 * k := by
  simp only [commandAllows, Bool.and_eq_true, decide_eq_true_eq, beq_iff_eq]
  constructor
  · rintro ⟨⟨hl, hu⟩, hmod⟩
    exact ⟨n / 3, by omega, by omega, by omega⟩
  · rintro ⟨k, hl, hu, rfl⟩
    omega

theorem isDraw_iff (e : Entry) : e.isDraw = true ↔
    e.code = 0x30#8 ∨ e.code = 0x31#8 ∨ e.code = 0x32#8 ∨ e.code = 0x33#8 ∨ e.code = 0x34#8 ∨ e.code = 0x35#8 := by
  have hcode : ∀ code : Byte, (commandOf code).any isDrawCommand = true ↔
      code = 0x30#8 ∨ code = 0x31#8 ∨ code = 0x32#8 ∨ code = 0x33#8 ∨ code = 0x34#8 ∨ code = 0x35#8 := by decide
  exact hcode e.code

/-! ### The head waits (R161) -/

/-- Each row that takes from the Command Queue does so by the three conditions. -/
theorem exec_takingRow : ∀ c ∈ takingRows, ∃ row act, ∀ s, exec c s = s.taking row act := by
  simp only [takingRows, List.forall_mem_cons, List.not_mem_nil, false_implies, implies_true, and_true]
  and_intros
  all_goals exact ⟨_, _, fun _ => rfl⟩

theorem taking_waits {s : State} {e : Entry} {rest : List Entry} (hq : s.port.commands = e :: rest) (h : s.mayTake e = false)
    (row : Entry → Bool) (act : Entry → State → State) : s.taking row act = .next s := by
  have hnone : s.takeable row = none := by
    rw [State.takeable, hq]
    exact if_neg (by rw [h, Bool.and_false]; nofun)
  rw [State.taking, hnone]

theorem mayTake_eq_false {s : State} {e : Entry} (h : s.port.transfer ≠ none ∨ 8 ≤ s.port.responses.length + s.unanswered ∨
    (e.isDraw = true ∧ 4 ≤ s.engine.queue.length)) : s.mayTake e = false := by
  refine Bool.eq_false_iff.2 fun hm => ?_
  obtain ⟨hfree, hbudget, hroom⟩ := (mayTake_iff s e).1 hm
  obtain hheld | hfull | ⟨hdraw, hqueue⟩ := h
  · exact hheld hfree
  · exact hfull.not_gt hbudget
  · exact hqueue.not_gt (hroom hdraw)

/-- Settles O10: the catalogue code by code, the rows that wait by `taking_waits`, and the answers by `taking_of`. -/
theorem headIsAnsweredOrWaits : Obligations.HeadIsAnsweredOrWaits := by
  unfold Obligations.HeadIsAnsweredOrWaits
  refine ⟨commandOf_eq_some_iff, ?_, fun n => ⟨?_, ?_, commandAllows_paletteWrite_iff n⟩, isDraw_iff, fun s => ?_,
    fun c hc s e rest hq hblocked => ?_, fun s e rest htakes => ⟨fun hbad => ?_, fun hgood hcode => ?_,
      fun c hgood hcode hlength => ?_⟩⟩
  · simp only [List.forall_mem_cons, List.not_mem_nil, commandAllows, beq_iff_eq, false_implies, implies_true, and_self]
  · simp only [commandAllows, Bool.and_eq_true, decide_eq_true_eq]
  · simp only [commandAllows, Bool.and_eq_true, decide_eq_true_eq]
  · rw [State.unanswered, Nat.add_comm]
    rfl
  · obtain ⟨row, act, hrow⟩ := exec_takingRow c hc
    rw [hrow, taking_waits hq (mayTake_eq_false hblocked)]
  · exact taking_of htakes hbad
  · have hunknown : e.isUnknown = true := by rw [Entry.isUnknown, hgood, hcode]; rfl
    exact taking_of htakes hunknown
  · have hrow : e.isBadLength = true := by
      rw [Entry.isBadLength, hgood, hcode, Option.any_some, hlength]
      rfl
    exact taking_of htakes hrow

end Sys2Proof.Machine
end

section
/-! SUPPORT. What leaves the Command Port: the bytes of PDO, the interrupt line, and the status bytes of READ STATUS. -/

namespace Sys2Proof.Machine

/-! ### PDO (R158, R163) -/

/-- A read transaction without a byte after its kind byte takes no response. -/
theorem readOut_zero (s : State) : s.readOut 0 = s.send [0#8] := if_pos rfl

/-- The idle marker: with no response to send, PDO carries 00h throughout (R163). -/
theorem readOut_idle {s : State} (h : s.port.responses = []) (count : Nat) :
    s.readOut (count + 1) = s.send (List.replicate (count + 2) 0#8) := by
  rw [State.readOut, if_neg count.succ_ne_zero, h]
  rfl

/-- The head response leaves the queue, and PDO carries as much of its frame as is clocked, followed by 00h (R163). -/
theorem readOut_head {s : State} {r : Response} {rest : List Response} (h : s.port.responses = r :: rest) (count : Nat) :
    s.readOut (count + 1) = ({ s with port := { s.port with responses := rest } }).send
      (0#8 :: (responseFrame r ++ List.replicate (count + 1) 0#8).take (count + 1)) := by
  rw [State.readOut, if_neg count.succ_ne_zero, h]

/-- A read transaction takes place whenever the reset pin is released. -/
theorem exec_readTransaction {s : State} (h : s.resetPin = false) (count : Nat) :
    exec (.readTransaction count) s = .next (s.readOut count) :=
  happening_of (f := fun s => s.readOut count) h rfl

/-- Settles O8: the ignored transaction sends 00h throughout, and the read transaction by its count and the Response Queue. -/
theorem transactionsSendTheirBytes : Obligations.TransactionsSendTheirBytes := by
  unfold Obligations.TransactionsSendTheirBytes
  intro s hp
  refine ⟨fun kind count hcommand hread => ?_, ?_, fun count hempty => ?_, fun count r rest hqueue => ?_⟩
  · have hignored : (kind != 1#8 && kind != 2#8) = true := by simp [hcommand, hread]
    exact happening_of (f := fun s => s.send (List.replicate (count + 1) 0#8)) hp hignored
  · rw [exec_readTransaction hp, readOut_zero]
    rfl
  · rw [exec_readTransaction hp, readOut_idle hempty]
    rfl
  · rw [exec_readTransaction hp, readOut_head hqueue]
    rfl

/-! ### INT (R168) -/

/-- The Event Set holds a kind exactly where one of its nine counts is not 0 (R166). -/
theorem Events.ne_none_iff (e : Events) : e ≠ .none ↔ ∃ n ∈ e.counts, 1 ≤ n := by
  have hempty : e = .none ↔ ∀ n ∈ e.counts, n = 0 := by
    cases e
    simp [Events.none, Events.counts]
  simp only [ne_eq, hempty, not_forall, exists_prop, Nat.one_le_iff_ne_zero]

theorem interrupt_iff (s : State) :
    s.interrupt = true ↔ (∃ n ∈ s.port.events.counts, 1 ≤ n) ∨ s.port.responses ≠ [] := by
  rw [State.interrupt, Bool.or_eq_true, bne_iff_ne, bne_iff_ne, Events.ne_none_iff]

/-- STATE, raised in the emptied Event Set, holds INT asserted (R165, R168). -/
theorem restartBlocks_interrupt (s : State) : s.restartBlocks.interrupt = true :=
  have hstate : 1 ∈ (Events.none.raise .state).counts := by decide
  (interrupt_iff _).2 (.inl ⟨1, hstate, le_rfl⟩)

/-- An access that takes place and answers a next state had its effect. -/
theorem accessing_next {s t : State} {fault : Option Fault} {f : State → State} (hp : s.resetPin = false)
    (h : s.accessing true fault f = .next t) : t = f s := by
  cases fault with
  | none => exact (Host.Outcome.next.inj ((accessing_of hp rfl rfl).symm.trans h)).symm
  | some r => simp [State.accessing, hp] at h

/-- Settles O9: INT by `interrupt_iff`; the reset pin empties both collections, and RESTART ends in `State.restartBlocks`. -/
theorem interruptFollowsItsCollections : Obligations.InterruptFollowsItsCollections := by
  unfold Obligations.InterruptFollowsItsCollections
  refine ⟨interrupt_iff, fun s t h => ?_, fun s t inService hp h => ?_⟩
  · cases h
    rfl
  · have ht : t = s.restarted inService := accessing_next (f := fun s => s.restarted inService) hp h
    rw [ht]
    exact restartBlocks_interrupt _

/-! ### READ STATUS (R169, Table 10-7) -/

theorem byte1_toNat_eq_ite (b : Bool) : byte1 b.toNat = if b then 1#8 else 0#8 := by
  cases b <;> rfl

/-- The sixteen bytes of Table 10-7, with the agreement code and the synced byte written out. -/
theorem statusBytes_eq (s : State) : s.statusBytes =
    [ownStateByte s.member.own, BitVec.ofNat 8 s.straps.station.toNat, BitVec.ofNat 8 s.straps.preset.toNat,
      BitVec.ofNat 8 (0x50 + s.straps.preset.toNat), if s.link.synced then 1#8 else 0#8, s.link.frameNumber,
      BitVec.ofNat 8 s.link.lineCounter, BitVec.ofNat 8 (s.link.lineCounter / 256), engineByte s.engine.mode,
      BitVec.ofNat 8 s.engine.queue.length, BitVec.ofNat 8 s.port.commands.length,
      BitVec.ofNat 8 s.port.responses.length, BitVec.ofNat 8 s.collisions.length, BitVec.ofNat 8 s.picks.queue.length,
      BitVec.ofNat 8 s.table.updates.length, BitVec.ofNat 8 s.picks.points.length] := by
  rw [State.statusBytes, geometry_code, byte1_toNat_eq_ite]
  rfl

/-- Settles O11: the row takes the command, and answers the status of the station with it out of the queue. -/
theorem readStatusReturnsTheStatus : Obligations.ReadStatusReturnsTheStatus := by
  unfold Obligations.ReadStatusReturnsTheStatus
  intro s tag rest h
  have hrun : exec .readStatus s = .next (State.readStatus _ _) := taking_ordinary h rfl rfl State.readStatus
  rw [hrun, State.readStatus, statusBytes_eq, State.answered_eq_answer]
  rfl

end Sys2Proof.Machine
end

section
/-! SUPPORT. The queue of happenings over every happening: each named operation leaves it as it is, and a step takes from its
front alone. -/

namespace Sys2Proof.Machine

/-! ### How an operation's parts leave the queue -/

theorem ite_pending {c : Prop} [Decidable c] {s t u : State} (ht : t.pending = s.pending) (hu : u.pending = s.pending) :
    (if c then t else u).pending = s.pending := by
  split
  · exact ht
  · exact hu

/-! ### The shared operations -/

theorem reach_pending (s : State) (p : Nat) : (s.reach p).pending = s.pending := ite_pending rfl rfl

theorem changeState_pending (s : State) (new : OwnState) : (s.changeState new).pending = s.pending := by rw [changeState_eq]

theorem portWrites_pending (s : State) : s.portWrites.pending = s.pending := by
  obtain h | ⟨_, _, _, _, _, -, h⟩ := portWrites_cases s <;> rw [h]
  rfl

theorem engineWrites_pending (s : State) : s.engineWrites.pending = s.pending := by
  obtain h | ⟨_, _, _, -, -, h⟩ := engineWrites_cases s <;> rw [h]
  rfl

/-! ### The leading edge, the own timer and the silence -/

theorem endLine_pending (s : State) : s.endLine.pending = s.pending := by rw [endLine_eq]

theorem releaseMark_pending (s : State) : s.releaseMark.pending = s.pending := by
  unfold State.releaseMark
  split
  · rfl
  · exact reach_pending s _

theorem startLine_pending (s : State) : s.startLine.pending = s.pending := endLine_pending s

theorem leadingEdge_pending (s : State) : s.leadingEdge.pending = s.pending :=
  ite_pending rfl ((startLine_pending _).trans (releaseMark_pending s))

theorem driveMark_pending (s : State) (kind : MarkKind) : (s.driveMark kind).pending = s.pending := leadingEdge_pending s

theorem timerRunsOut_pending (s : State) : s.timerRunsOut.pending = s.pending := by
  unfold State.timerRunsOut
  split
  · rfl
  · exact driveMark_pending _ _

theorem found_pending (s : State) : s.found.pending = s.pending :=
  (driveMark_pending _ .frame).trans (changeState_pending s .founding)

theorem loseSync_pending (s : State) : s.loseSync.pending = s.pending := ite_pending (endLine_pending s) rfl

theorem atSilenceLimit_pending (s : State) : s.atSilenceLimit.pending = s.pending :=
  ite_pending (ite_pending ((found_pending _).trans (loseSync_pending s)) (loseSync_pending s)) rfl

theorem silenceReached_pending (s : State) : s.silenceReached.pending = s.pending := atSilenceLimit_pending _

/-! ### The Drawing Engine -/

theorem engineLoad_pending (q : List DrawEntry) (s : State) : (engineLoad q s).pending = s.pending := by rw [engineLoad_eq]

theorem abortAll_pending (s : State) (entries : List DrawEntry) : (s.abortAll entries).pending = s.pending := by
  rw [abortAll_eq]

theorem engineStart_pending (s : State) : s.engineStart.pending = s.pending := by
  unfold State.engineStart
  split
  · exact ite_pending (engineLoad_pending _ _) rfl
  all_goals rfl

theorem takeDraw_pending (c : Command) (e : Entry) (s : State) : (s.takeDraw c e).pending = s.pending := by
  unfold State.takeDraw
  split
  · rfl
  · unfold State.acceptDraw
    split
    · exact engineLoad_pending _ _
    all_goals rfl

theorem engineAdvances_pending (s : State) (old : Byte) : (s.engineAdvances old).pending = s.pending := by
  unfold State.engineAdvances
  split
  · rfl
  · rfl
  · exact ite_pending (engineLoad_pending _ _) rfl
  · exact ite_pending ((engineLoad_pending _ _).trans (abortAll_pending _ _)) rfl

theorem engineServed_pending (s : State) : s.engineServed.pending = s.pending := by
  unfold State.engineServed
  split
  · rfl
  · exact (engineAdvances_pending _ _).trans (engineWrites_pending s)

theorem engineAborted_pending (s : State) : s.engineAborted.pending = s.pending := by
  unfold State.engineAborted
  split
  · exact abortAll_pending _ _
  · exact abortAll_pending _ _
  · exact ite_pending rfl (abortAll_pending _ _)
  · rfl

theorem drawAborted_pending (s : State) (inService : Option Client) : (s.drawAborted inService).pending = s.pending :=
  engineAborted_pending (s.hold inService)

/-! ### A mark taken -/

theorem consumeFlags_pending (s : State) (kind : MarkKind) : (s.consumeFlags kind).pending = s.pending :=
  ite_pending (changeState_pending s .detached) (ite_pending (changeState_pending s .member) rfl)

theorem frameMembership_pending (s : State) (wasSynced : Bool) : (s.frameMembership wasSynced).pending = s.pending :=
  ite_pending (ite_pending (changeState_pending s .refused) (consumeFlags_pending _ .frame)) (consumeFlags_pending s .frame)

theorem frameCount_pending (s : State) : s.frameCount.pending = s.pending := ite_pending (s := s) rfl rfl

theorem turnOver_pending (s : State) : s.turnOver.pending = s.pending := ite_pending (s := s) rfl rfl

theorem openActiveLine_pending (s : State) (L : Nat) : (s.openActiveLine L).pending = s.pending := by rw [openActiveLine_eq]

theorem advanceLine_pending (s : State) : s.advanceLine.pending = s.pending :=
  ite_pending rfl (ite_pending (openActiveLine_pending _ _) (ite_pending rfl rfl))

theorem takeLineMark_pending (s : State) : s.takeLineMark.pending = s.pending :=
  have hflags : (s.restartClocks.consumeFlags .line).pending = s.pending := consumeFlags_pending s.restartClocks .line
  ite_pending ((advanceLine_pending _).trans hflags) hflags

theorem takeFrameMark_pending (s : State) : s.takeFrameMark.pending = s.pending := by
  have hcount : s.restartClocks.frameCount.pending = s.pending := frameCount_pending s.restartClocks
  have hmember := (frameMembership_pending s.restartClocks.frameCount s.link.synced).trans hcount
  unfold State.takeFrameMark
  rw [openActiveLine_pending, engineStart_pending, turnOver_pending]
  exact hmember

theorem takeMark_pending (s : State) (seen : MarkKind) : (s.takeMark seen).pending = s.pending := by
  have hreach := (reach_pending s.leadingEdge decisionPoint).trans (leadingEdge_pending s)
  unfold State.takeMark
  dsimp only
  split
  · exact (takeLineMark_pending _).trans hreach
  · exact (takeFrameMark_pending _).trans hreach

/-! ### The announce window -/

theorem frameWordEnds_pending (s : State) (others : Lines) : (s.frameWordEnds others).pending = s.pending := by
  unfold State.frameWordEnds
  split
  · rfl
  · split
    · rfl
    · rw [readFrameWord_eq]
      exact reach_pending s frameWordEnd

theorem takePlace_pending (s : State) (n : Nat) (w : Lines) : (s.takePlace n w).pending = s.pending := ite_pending rfl rfl

theorem readBackPlace_pending (s : State) (driven read : Lines) : (s.readBackPlace driven read).pending = s.pending :=
  ite_pending (ite_pending rfl rfl) (changeState_pending s .conflict)

theorem completeWindow_pending (s : State) (w : AnnounceWindow) : (s.completeWindow w).pending = s.pending := by
  obtain heq | ⟨-, heq⟩ | ⟨-, new, -, heq⟩ := completeWindow_cases s w <;> rw [heq]
  · rfl
  · rfl
  · exact changeState_pending s.windowEnded new

theorem nextPlace_pending (s : State) (w : AnnounceWindow) : (s.nextPlace w).pending = s.pending :=
  ite_pending rfl (completeWindow_pending s w)

theorem endPlace_pending (s : State) (w : AnnounceWindow) (others : Lines) : (s.endPlace w others).pending = s.pending := by
  unfold State.endPlace
  extract_lets drives driven read s1 s2
  have h1 : s1.pending = s.pending := (takePlace_pending _ _ _).trans (ite_pending (s := s) rfl rfl)
  have h2 : s2.pending = s1.pending := ite_pending (readBackPlace_pending s1 driven read) rfl
  exact (nextPlace_pending s2 _).trans (h2.trans h1)

theorem announcePlaceEnds_pending (s : State) (others : Lines) : (s.announcePlaceEnds others).pending = s.pending := by
  unfold State.announcePlaceEnds
  split
  · rfl
  · exact ite_pending ((endPlace_pending _ _ _).trans (reach_pending s _)) rfl

/-! ### The claim window and the fetch -/

theorem closeWindow_pending (s : State) : s.closeWindow.pending = s.pending := by
  rw [closeWindow_eq]
  obtain ⟨-, _, _, -, heq⟩ | ⟨-, heq⟩ := startFetch_cases s.windowClosed <;> rw [heq] <;> rfl

theorem compareBid_pending (s : State) (r : Nat) (word : Lines) (stayed repeated : Bool) :
    (s.compareBid r word stayed repeated).pending = s.pending := by
  obtain heq | heq | ⟨-, c, heq⟩ := compareBid_cases s r word stayed repeated <;> rw [heq]
  · exact changeState_pending s .conflict
  · rfl

theorem drivenRound_pending (s : State) (r : Nat) (word : Lines) (stayed : Bool) :
    (s.drivenRound r word stayed).pending = s.pending := by
  unfold State.drivenRound
  extract_lets repeated s1 s2
  have hrecord : s2.pending = s1.pending := ite_pending rfl rfl
  have h2 : s2.pending = s.pending := hrecord.trans (compareBid_pending s r word stayed repeated)
  exact ite_pending ((closeWindow_pending s2).trans h2) h2

theorem endRound_pending (s : State) (r : Nat) (bids : List Lines) (held : Carried) :
    (s.endRound r bids held).pending = s.pending :=
  ite_pending (closeWindow_pending (s.drive _)) (drivenRound_pending (s.drive _) r _ _)

theorem claimRoundEnds_pending (s : State) (bids : List Lines) (held : Carried) :
    (s.claimRoundEnds bids held).pending = s.pending := by
  unfold State.claimRoundEnds
  split
  · rfl
  · exact (endRound_pending _ _ _ _).trans (reach_pending s _)

theorem nextRow_pending (s : State) : s.nextRow.pending = s.pending := by
  unfold State.nextRow
  split <;> rfl

theorem fetchServed_pending (s : State) : s.fetchServed.pending = s.pending := by
  unfold State.fetchServed
  split
  · exact ite_pending (s := s) (nextRow_pending _) rfl
  · rfl

/-! ### The columns and the picks -/

theorem State.OffersTo.pending {s t : State} (h : s.OffersTo t) : t.pending = s.pending := by
  rw [State.OffersTo] at h
  rw [h]

theorem columnResolved_pending (s : State) (rivals : List Lines) (held : Carried) (join : Lines) :
    (s.columnResolved rivals held join).pending = s.pending := by
  unfold State.columnResolved
  split
  · rfl
  · rw [reach_moved, resolveColumn_moved]
    exact (examined_offersTo s (s.reported _ rivals held join)).pending

theorem edgeInColumn_pending (s : State) (x : Nat) : (s.edgeInColumn x).pending = s.pending := by
  unfold State.edgeInColumn
  split
  · exact ite_pending (ite_pending rfl (offerPick_offersTo _ _).pending) (ite_pending rfl rfl)
  · exact ite_pending rfl rfl

theorem pickEdge_pending (s : State) : s.pickEdge.pending = s.pending := by
  unfold State.pickEdge
  split
  · exact edgeInColumn_pending s _
  · rfl

/-! ### The port -/

theorem portServed_pending (s : State) : s.portServed.pending = s.pending := by
  unfold State.portServed
  split
  · rfl
  · exact ite_pending (portWrites_pending s) (portWrites_pending s)
  · exact ite_pending rfl rfl

theorem readOut_pending (s : State) (count : Nat) : (s.readOut count).pending = s.pending := by
  refine ite_pending rfl ?_
  split <;> rfl

theorem finishAccess_pending (s : State) (inService : Option Client) : (s.finishAccess inService).pending = s.pending := by
  unfold State.finishAccess
  split
  · rfl
  · rfl
  · exact portWrites_pending s
  · exact engineWrites_pending s

/-- RESTART resets the blocks, but not the model's own queue (R165; log entry 24). -/
theorem restarted_pending (s : State) (inService : Option Client) : (s.restarted inService).pending = s.pending :=
  finishAccess_pending s inService

theorem receiveFrame_pending (s : State) (r : Received) (inService : Option Client) :
    (s.receiveFrame r inService).pending = s.pending := by
  cases r with
  | abort => exact drawAborted_pending s inService
  | restart => exact restarted_pending s inService
  | entry e => exact ite_pending (s := s) rfl rfl

/-! ### The commands taken from the Command Queue -/

theorem queueUpdate_pending (s : State) (e : Entry) (u : PendingEntry) : (s.queueUpdate e u).pending = s.pending :=
  ite_pending rfl rfl

theorem writeNow_pending (s : State) (e : Entry) : (s.writeNow e).pending = s.pending := by
  unfold State.writeNow
  split <;> rfl

theorem writeAtFrame_pending (s : State) (e : Entry) : (s.writeAtFrame e).pending = s.pending := by
  unfold State.writeAtFrame
  split
  · rfl
  · exact queueUpdate_pending ..

theorem moveNow_pending (s : State) (e : Entry) : (s.moveNow e).pending = s.pending := by
  unfold State.moveNow
  split
  · rfl
  · exact ite_pending rfl rfl

theorem moveAtFrame_pending (s : State) (e : Entry) : (s.moveAtFrame e).pending = s.pending := by
  unfold State.moveAtFrame
  split
  · rfl
  · exact queueUpdate_pending ..

theorem readPicks_pending (s : State) (e : Entry) : (s.readPicks e).pending = s.pending := by
  unfold State.readPicks
  split <;> rfl

theorem detach_pending (s : State) (e : Entry) : (s.detach e).pending = s.pending := by
  unfold State.detach
  split
  · rfl
  · rfl
  all_goals exact changeState_pending s .detached

theorem rejoin_pending (s : State) (e : Entry) : (s.rejoin e).pending = s.pending := by
  unfold State.rejoin
  split
  iterate 3 exact (atSilenceLimit_pending _).trans (changeState_pending s .listen)
  all_goals rfl

/-! ### Every happening, and the step -/

theorem happening_pending {s t : State} {enabled : Bool} {f : State → State} (h : s.happening enabled f = .next t)
    (hf : (f s).pending = s.pending) : t.pending = s.pending := by
  obtain rfl | ⟨-, -, rfl⟩ := happening_cases h
  · rfl
  · exact hf

theorem accessing_pending {s t : State} {enabled : Bool} {fault : Option Fault} {f : State → State}
    (h : s.accessing enabled fault f = .next t) (hf : (f s).pending = s.pending) : t.pending = s.pending := by
  obtain rfl | ⟨-, -, -, rfl⟩ := accessing_cases h
  · rfl
  · exact hf

theorem taking_pending {s t : State} {row : Entry → Bool} {act : Entry → State → State} (h : s.taking row act = .next t)
    (hact : ∀ (u : State) (e : Entry), (act e u).pending = u.pending) : t.pending = s.pending := by
  obtain rfl | ⟨e, rest, -, -, rfl⟩ := taking_cases h
  · rfl
  · exact hact _ e

/-- Settles O3: row by row, each by the lemma on its operation. -/
theorem execKeepsThePendingHappenings : Obligations.ExecKeepsThePendingHappenings := by
  unfold Obligations.ExecKeepsThePendingHappenings
  intro c s t h
  cases c with
  | resetPinAsserted | resetPinReleased => cases h; rfl
  | commandFrameReceived bytes inService =>
    exact accessing_pending (f := fun s => (s.send _).receiveFrame (receive bytes) inService) h
      (receiveFrame_pending (s.send _) _ _)
  | ignoredTransaction kind count => exact happening_pending (f := fun s => s.send _) h rfl
  | readTransaction count => exact happening_pending (f := fun s => s.readOut count) h (readOut_pending s count)
  | badFrameEntryTaken | unknownCodeTaken | badLengthEntryTaken => exact taking_pending h fun _ _ => rfl
  | readShortfall | readMembers | readStatus | readEvents | flushPending => exact taking_pending h fun _ _ => rfl
  | objectWriteNow => exact taking_pending h writeNow_pending
  | objectWriteAtFrame => exact taking_pending h writeAtFrame_pending
  | objectMoveNow => exact taking_pending h moveNow_pending
  | objectMoveAtFrame => exact taking_pending h moveAtFrame_pending
  | objectRead | tintWrite | paletteWrite | surfaceWrite | surfaceRead | readCollisions =>
    exact taking_pending h fun _ _ => ite_pending rfl rfl
  | pickAt => exact taking_pending h fun _ _ => ite_pending rfl (ite_pending rfl rfl)
  | readPicks => exact taking_pending h readPicks_pending
  | detach => exact taking_pending h detach_pending
  | rejoin => exact taking_pending h rejoin_pending
  | fill | copy | line | seek | plot | probe => exact taking_pending h fun u e => takeDraw_pending _ e u
  | portWriteAccessServed | portReadAccessServed => exact accessing_pending h (portServed_pending s)
  | engineAccessServed => exact accessing_pending h (engineServed_pending s)
  | fetchAccessServed => exact accessing_pending h (fetchServed_pending s)
  | drawAbort inService =>
    exact happening_pending (f := fun s => s.drawAborted inService) h (drawAborted_pending s inService)
  | restart inService => exact accessing_pending (f := fun s => s.restarted inService) h (restarted_pending s inService)
  | lmarkLeadingEdge => exact happening_pending h (leadingEdge_pending s)
  | lineMark => exact happening_pending (f := fun s => s.takeMark .line) h (takeMark_pending s .line)
  | frameMark => exact happening_pending (f := fun s => s.takeMark .frame) h (takeMark_pending s .frame)
  | lineTimerRunsOut => exact happening_pending h (timerRunsOut_pending s)
  | silenceCountLimit => exact happening_pending h (silenceReached_pending s)
  | frameWord others => exact happening_pending (f := fun s => s.frameWordEnds others) h (frameWordEnds_pending s others)
  | announcePlace others =>
    exact happening_pending (f := fun s => s.announcePlaceEnds others) h (announcePlaceEnds_pending s others)
  | claimRound bids held =>
    exact happening_pending (f := fun s => s.claimRoundEnds bids held) h (claimRoundEnds_pending s bids held)
  | columnResolved rivals held join =>
    exact happening_pending (f := fun s => s.columnResolved rivals held join) h (columnResolved_pending s rivals held join)
  | picktrigEdge => exact happening_pending h (pickEdge_pending s)

/-- Settles O1: `step` reads the front of the queue. -/
theorem stepRunsTheFrontHappening : Obligations.StepRunsTheFrontHappening := by
  unfold Obligations.StepRunsTheFrontHappening
  intro c s rest hq
  unfold step
  rw [hq]
  rfl

end Sys2Proof.Machine
end
